-- ==== Sys2Proof/Word.lean ====
section
/-! DEFINITION. The word types: bytes of a frame, 16-bit window words, 32-bit station time. -/

namespace Sys2Proof

/-- One byte of a frame (R176). -/
abbrev Byte := BitVec 8

/-- One word of a window record, and the data of a response (R183, R196). -/
abbrev Word := BitVec 16

/-- Station time: a 32-bit count of milliseconds that wraps (R42). -/
abbrev StationTime := BitVec 32

/-- An interval in station time: the difference of two values modulo 2^32 (R42). -/
def elapsed (now since : StationTime) : Nat := (now - since).toNat

end Sys2Proof
end

