-- ==== Sys2Proof/Syntax.lean ====
section
/-! DEFINITION. The commands of the part: one constructor of `Instr` per row of spec/opcode_table.json, and the types of their operands. -/

namespace Sys2Proof

/-- A racing lane, numbered 1 to 8 (section 5.2 of the scope). -/
inductive Lane where
  | l1 | l2 | l3 | l4 | l5 | l6 | l7 | l8
  deriving DecidableEq, Repr

/-- A lane's number. -/
def Lane.num : Lane → Nat
  | .l1 => 1 | .l2 => 2 | .l3 => 3 | .l4 => 4 | .l5 => 5 | .l6 => 6 | .l7 => 7 | .l8 => 8

/-- The eight lanes in ascending number. -/
def Lane.all : List Lane := [.l1, .l2, .l3, .l4, .l5, .l6, .l7, .l8]

/-- One of a thing for each lane. -/
structure Lanes (α : Type) where
  l1 : α
  l2 : α
  l3 : α
  l4 : α
  l5 : α
  l6 : α
  l7 : α
  l8 : α
  deriving DecidableEq, Repr

/-- The same thing for every lane. -/
def Lanes.all {α : Type} (a : α) : Lanes α := ⟨a, a, a, a, a, a, a, a⟩

/-- The lane's own one. -/
def Lanes.get {α : Type} (x : Lanes α) : Lane → α
  | .l1 => x.l1 | .l2 => x.l2 | .l3 => x.l3 | .l4 => x.l4
  | .l5 => x.l5 | .l6 => x.l6 | .l7 => x.l7 | .l8 => x.l8

/-- `x` with lane `l`'s one replaced. -/
def Lanes.set {α : Type} (x : Lanes α) (l : Lane) (a : α) : Lanes α :=
  match l with
  | .l1 => { x with l1 := a }
  | .l2 => { x with l2 := a }
  | .l3 => { x with l3 := a }
  | .l4 => { x with l4 := a }
  | .l5 => { x with l5 := a }
  | .l6 => { x with l6 := a }
  | .l7 => { x with l7 := a }
  | .l8 => { x with l8 := a }

/-- Every lane's one changed by a function of the lane and its old one. -/
def Lanes.mapLane {α β : Type} (f : Lane → α → β) (x : Lanes α) : Lanes β :=
  ⟨f .l1 x.l1, f .l2 x.l2, f .l3 x.l3, f .l4 x.l4, f .l5 x.l5, f .l6 x.l6, f .l7 x.l7, f .l8 x.l8⟩

/-- Some lane's one satisfies the test. -/
def Lanes.any {α : Type} (f : α → Bool) (x : Lanes α) : Bool :=
  f x.l1 || f x.l2 || f x.l3 || f x.l4 || f x.l5 || f x.l6 || f x.l7 || f x.l8

/-- One of the four station ports, numbered 0 to 3 (section 5.2 of the scope). -/
inductive Port where
  | p0 | p1 | p2 | p3
  deriving DecidableEq, Repr

/-- A port's number. -/
def Port.num : Port → Nat
  | .p0 => 0 | .p1 => 1 | .p2 => 2 | .p3 => 3

/-- One of a thing for each port. -/
structure Ports (α : Type) where
  p0 : α
  p1 : α
  p2 : α
  p3 : α
  deriving DecidableEq, Repr

/-- The port's own one. -/
def Ports.get {α : Type} (x : Ports α) : Port → α
  | .p0 => x.p0 | .p1 => x.p1 | .p2 => x.p2 | .p3 => x.p3

/-- `x` with port `p`'s one replaced. -/
def Ports.set {α : Type} (x : Ports α) (p : Port) (a : α) : Ports α :=
  match p with
  | .p0 => { x with p0 := a }
  | .p1 => { x with p1 := a }
  | .p2 => { x with p2 := a }
  | .p3 => { x with p3 := a }

/-- Every port's one changed by a function of the port and its old one. -/
def Ports.mapPort {α β : Type} (f : Port → α → β) (x : Ports α) : Ports β :=
  ⟨f .p0 x.p0, f .p1 x.p1, f .p2 x.p2, f .p3 x.p3⟩

/-- Each lane's two detectors: at the start/finish line and at the sector gate (chapter 1). -/
inductive DetKind where
  | line | sector
  deriving DecidableEq, Repr

/-- The levels of the strap pins, true for high: two baud straps common to all ports, one role strap for each
of ports 1 to 3 (R174, R175). -/
structure Straps where
  baud1 : Bool
  baud2 : Bool
  role1 : Bool
  role2 : Bool
  role3 : Bool
  deriving DecidableEq, Repr

/-- The five bytes of a completed request frame (R176, R196). -/
structure Frame where
  code : Byte
  selector : Byte
  paramHigh : Byte
  paramLow : Byte
  check : Byte
  deriving DecidableEq, Repr

/-- The commands: one constructor per row of spec/opcode_table.json.

A request command is one completed frame with a good check byte at the named port; its other operands are the raw
fields of that frame (R196), so an operand that names nothing meets its refusal in the command's own meaning.
A timer command is the part's own timer running out. An input command is an event on an input pin. -/
inductive Instr where
  /-- POWER_ON: power is applied with the straps at these levels (R64, R174). -/
  | powerOn (straps : Straps)
  /-- RESET_PIN: the reset pin is asserted (R64, R174). -/
  | resetPin
  /-- RESET_PIN_RELEASE: the reset pin is released with the straps at these levels (R174). -/
  | resetPinRelease (straps : Straps)
  /-- RESET_PART_CLEAR: RESET PART request naming CLEAR (R191). -/
  | resetPartClear (p : Port)
  /-- RESET_PART_KEEP: RESET PART request naming KEEP (R191). -/
  | resetPartKeep (p : Port)
  /-- RESET_PART_TAKEN: the last stop bit of the RESET PART response has been sent (R191). -/
  | resetPartTaken
  /-- STAGE_HEAT request (R45). -/
  | stageHeat (p : Port)
  /-- CLEAR_HEAT request (R46). -/
  | clearHeat (p : Port)
  /-- START request (R47). -/
  | start (p : Port)
  /-- RED_LAMP_LIT: the countdown pacing timer (R47). -/
  | redLampLit
  /-- GREEN_EVENT: the end of the countdown and green delay (R48). -/
  | greenEvent
  /-- RECALL_START request (R49). -/
  | recallStart (p : Port)
  /-- TRACK_CALL request (R51). -/
  | trackCall (p : Port)
  /-- RESUME request (R54). -/
  | resume (p : Port)
  /-- RESUME_LAMP_OUT: the resume pacing timer, lamps 1 to 4 (R54). -/
  | resumeLampOut
  /-- RESUME_COUNTDOWN_END: the fifth red lamp goes out (R54). -/
  | resumeCountdownEnd
  /-- HEAT_TIME_EXPIRY_FREEZE: the race clock reaches T_e in a TIMED_FREEZE heat (R55). -/
  | heatTimeExpiryFreeze
  /-- HEAT_TIME_EXPIRY_RUN_TO_LINE: the race clock reaches T_e in a TIMED_RUN_TO_LINE heat (R56). -/
  | heatTimeExpiryRunToLine
  /-- GRACE_RUN_OUT: the grace period runs out (R58). -/
  | graceRunOut
  /-- SETTLE_EVENT: the race clock reaches T_e + 100 in SETTLING (R59). -/
  | settleEvent
  /-- END_HEAT request (R60). -/
  | endHeat (p : Port)
  /-- CLOCK_CAP: the race clock reaches its cap (R61). -/
  | clockCap
  /-- GREEN_LAMP_FLASH: the flashing green lamp's timer (R63). -/
  | greenLampFlash
  /-- FILTERED_LEVEL_CHANGE: the run of differing samples of a detector input is complete and its filtered level
  becomes `broken` (true) or restored (false); `capture` and `brokenAt` are the race clock and the station time of the
  run's first sample (R1, R2, R4). -/
  | filteredLevelChange (l : Lane) (k : DetKind) (broken : Bool) (capture : Nat) (brokenAt : StationTime)
  /-- STUCK_WATCH_EXPIRY: a detector's stuck watch reaches the stuck limit (R7). -/
  | stuckWatchExpiry (l : Lane) (k : DetKind)
  /-- DETECTOR_OUT request: selector lane, parameter detector kind (R14). -/
  | detectorOut (p : Port) (lane : Byte) (kind : Word)
  /-- DETECTOR_RESTORE_LINE: DETECTOR RESTORE request of a line detector (R15). -/
  | detectorRestoreLine (p : Port) (lane : Byte)
  /-- DETECTOR_RESTORE_SECTOR: DETECTOR RESTORE request of a sector detector (R16). -/
  | detectorRestoreSector (p : Port) (lane : Byte)
  /-- ADJUDICATION_DEADLINE: the oldest queued entry reaches its adjudication window (R34). -/
  | adjudicationDeadline
  /-- ACCEPT request by sequence number (R35). -/
  | accept (p : Port) (seq : Word)
  /-- REJECT request by sequence number (R35). -/
  | reject (p : Port) (seq : Word)
  /-- CALL request: lane, kind code, amount (R109). -/
  | call (p : Port) (lane : Byte) (kind : Byte) (amount : Byte)
  /-- CONFIRM request by sequence number (R115). -/
  | confirm (p : Port) (seq : Word)
  /-- CONFIRM_WINDOW_LAPSE: the CALLED entry of a book slot reaches its confirm window (R114). -/
  | confirmWindowLapse (slot : Nat)
  /-- WAIVE request by sequence number (R121). -/
  | waive (p : Port) (seq : Word)
  /-- DESLOT request: lane (R124). -/
  | deslot (p : Port) (lane : Byte)
  /-- CLEAR_BOOK request (R127). -/
  | clearBook (p : Port)
  /-- STOP_GO_END: the step of station time that takes a serving stop-go's progress to 0 (R135). -/
  | stopGoEnd (l : Lane)
  /-- LANE_LAMP_FLASH: a flashing lane lamp's timer (R144). -/
  | laneLampFlash (l : Lane)
  /-- PWM_PERIOD_START: the train of PWM periods starts a period (R147). -/
  | pwmPeriodStart
  /-- ON_TIME_END: a capped lane's on-time has run (R149). -/
  | onTimeEnd (l : Lane)
  /-- DEAD_TIME_END: a lane's drive has been off for the dead time (R148). -/
  | deadTimeEnd (l : Lane)
  /-- OVERCURRENT_TRIP: the fourth counted asserted overcurrent sample (R152). -/
  | overcurrentTrip (l : Lane)
  /-- RETRY_DELAY_END: a tripped lane's retry delay runs out (R153). -/
  | retryDelayEnd (l : Lane)
  /-- RETRY_WATCH_END: a lane's retry watch has counted down (R154). -/
  | retryWatchEnd (l : Lane)
  /-- DRIVE_ON_RUN_COMPLETE: a lane's drive-on run has reached 5,000 ms (R155). -/
  | driveOnRunComplete (l : Lane)
  /-- LANE_RESTORE request: lane (R157). -/
  | laneRestore (p : Port) (lane : Byte)
  /-- SUPPLY_LOW_EDGE: the supply-low input's filtered level becomes asserted (R160). -/
  | supplyLowEdge
  /-- SUPPLY_LOW_RECOVERY: the supply-low input's filtered level becomes deasserted (R159). -/
  | supplyLowRecovery
  /-- SET_EXCEPTION_MASK request: the set of kinds masked (R168). -/
  | setExceptionMask (p : Port) (kinds : Word)
  /-- CLEAR_EXCEPTIONS request: the set of kinds cleared (R170). -/
  | clearExceptions (p : Port) (kinds : Word)
  /-- POINT request: selector and parameter as R196 lays them out (R184). -/
  | point (p : Port) (selector : Byte) (parameter : Word)
  /-- READ request (R185). -/
  | read (p : Port)
  /-- WRITE request: the value (R187). -/
  | write (p : Port) (value : Word)
  /-- READ_ALERTS request (R188). -/
  | readAlerts (p : Port)
  /-- SET_ALERT_MASK request: the set of items (R189). -/
  | setAlertMask (p : Port) (items : Word)
  /-- SELECT_COUNTER request: the class code (R190). -/
  | selectCounter (p : Port) (cls : Word)
  /-- READ_COUNTER request (R190). -/
  | readCounter (p : Port)
  /-- IDENTIFY request (R192). -/
  | identify (p : Port)
  /-- FRAME_CHECK: a completed frame whose five bytes do not sum to 0 modulo 256 (R179). -/
  | frameCheck (p : Port) (f : Frame)
  /-- UNKNOWN_REQUEST: a completed frame with a good check byte whose code names no request (R179). -/
  | unknownRequest (p : Port) (code : Byte)
  /-- FRAMING_ERROR: a byte with a missing stop bit (R177). -/
  | framingError (p : Port)
  /-- TIMEOUT: a gap of 6 ms in RECEIVING (R177). -/
  | timeout (p : Port)
  /-- DISCARDING_QUIET_END: 6 ms of quiet line in DISCARDING (R177). -/
  | discardingQuietEnd (p : Port)
  /-- OVERRUN: a byte arrives while the port is ANSWERING (R178). -/
  | overrun (p : Port)
  /-- RESPONSE_SENT: the last stop bit of a response has been sent (R176). -/
  | responseSent (p : Port)
  /-- BYTE_RECEIVED: a byte with a good stop bit (R176). -/
  | byteReceived (p : Port) (b : Byte)
  /-- OVERCURRENT_FILTERED_LEVEL_DEASSERTED: a counted sample finds the input deasserted while its filtered level is
  asserted (R151). -/
  | overcurrentFilteredLevelDeasserted (l : Lane)
  deriving DecidableEq, Repr

end Sys2Proof
end

