-- ==== Sys2Proof/Decode.lean ====
section
/-! DEFINITION. Reading a command from the bits of an opcode-table row. -/

namespace Sys2Proof

/-- The command that the `nbits` bits of `w` spell. No row of spec/opcode_table.json gives bits ("n_rows_with_fields": 0 in
spec/98_reader.md), so no word spells a command. The frames of the station ports are read by the machine itself
(`Machine.frameRequest`). -/
def decodeTableWord (_nbits _w : Nat) : Option Instr := none

end Sys2Proof
end

