-- ==== Sys2Proof/Config.lean ====
section
/-! DEFINITION. The constants of the part that the spec fixes, and the one the model chooses (the die revision). -/

namespace Sys2Proof.Config

/-- The race clock's upper limit, 11 hours of 10 µs ticks (R43, R61). -/
def clockCap : Nat := 3960000000

/-- The top of a 32-bit field, at which TP and the adjusted time saturate (R88). -/
def top32 : Nat := 4294967295

/-- The top of L and of the saturating 16-bit counts (R73, R3). -/
def top16 : Nat := 65535

/-- The top of D (R73, R88). -/
def topDeducted : Nat := 999

/-- Ticks of 10 µs in one second (section 5.1 of the scope). -/
def ticksPerSecond : Nat := 100000

/-- Ticks in one unit of the staging field lockout, 10 ms (R21). -/
def ticksPerLockout : Nat := 1000

/-- Steps of 125 ns in one 10 µs sample interval (R1, section 8.2). -/
def stepsPerTick : Nat := 80

/-- Sample intervals in one millisecond of station time (R42, R43). -/
def ticksPerMs : Nat := 100

/-- Steps of 125 ns in one microsecond of dead time (R148). -/
def stepsPerMicrosecond : Nat := 8

/-- The longest dead time, 63 µs, in steps; the off-time counts stop there (R148). -/
def maxDeadSteps : Nat := 504

/-- Run length of the overcurrent filter (R151). -/
def overcurrentRun : Nat := 4

/-- Run length of the track-supply-low filter (R159). -/
def supplyRun : Nat := 100

/-- Milliseconds in the retry watch (R153). -/
def retryWatchMs : Nat := 100

/-- Milliseconds of clean running that zero the retry count (R155). -/
def cleanRunMs : Nat := 5000

/-- The gap in a frame, and the quiet line after an error, in ms (R177). -/
def frameGapMs : Nat := 6

/-- Entries a lap history holds (R74). -/
def historyDepth : Nat := 32

/-- Places of the adjudication queue (R30). -/
def queueDepth : Nat := 8

/-- Slots of the penalty book (R105). -/
def bookSlots : Nat := 16

/-- The part code that IDENTIFY returns in the high byte (R197). -/
def partCode : Byte := 136

/-- The die revision that IDENTIFY returns. The spec: "The first revision of the KX8 die reads 1" (R197).
DESIGN CHOICE (log entry 15): the model is of the first revision; unsafe for a later one. -/
def dieRevision : Byte := 1

end Sys2Proof.Config
end

