-- ==== Sys2Proof/Machine/State.lean ====
section
/-! DEFINITION. The state of the part: every record, list, counter, mode and output the spec gives it, as plain data, and
its value right after power-on. -/

namespace Sys2Proof.Machine

/-! ### Heat Controller (chapter 3) -/

/-- The heat phase (section 3.3). -/
inductive Phase where
  | idle | staged | countdown | green | hold | resuming | finishing | settling | ended
  deriving DecidableEq, Repr

/-- The staging field heat mode (R40). -/
inductive HeatMode where
  | timedFreeze | timedRunToLine | lapTarget
  deriving DecidableEq, Repr

/-- The staging field sector use (R40). -/
inductive SectorUse where
  | off | splits | confirm
  deriving DecidableEq, Repr

/-- The staging field reported resolution: 0.01, 0.1, 1 and 10 ms (R40, R90). -/
inductive Resolution where
  | us10 | us100 | ms1 | ms10
  deriving DecidableEq, Repr

/-- The staging field rounding mode (R40, R90). -/
inductive Rounding where
  | nearestEven | down | up
  deriving DecidableEq, Repr

/-- The staging field clock under call (R40, R44). -/
inductive ClockPolicy where
  | hold | run
  deriving DecidableEq, Repr

/-- The staging field jump penalty kind (R40). -/
inductive JumpKind where
  | warning | stopGo | timeAdd
  deriving DecidableEq, Repr

/-- The staging field PWM frequency: 4, 8 and 16 kHz (R40, section 8.2). -/
inductive PwmFrequency where
  | khz4 | khz8 | khz16
  deriving DecidableEq, Repr

/-- The staging fields detector edge (R40, R2). -/
inductive DetectorEdge where
  | leading | trailing
  deriving DecidableEq, Repr

/-- The staging record (R40). Units are those of the table there: s, ms, µs, laps, per cent, lockout in 10 ms. -/
structure Staging where
  heatMode : HeatMode
  heatTime : Nat
  lapTarget : Nat
  grace : Nat
  lanesEnabled : Lanes Bool
  driverTags : Lanes Nat
  sectorUse : SectorUse
  lockout : Nat
  nominalLap : Nat
  resolution : Resolution
  rounding : Rounding
  clockUnderCall : ClockPolicy
  confirmMarshalCalls : Bool
  confirmWindow : Nat
  adjudicationWindow : Nat
  mergeWindow : Nat
  jumpKind : JumpKind
  jumpAmount : Nat
  escalationThreshold : Nat
  cleanLapReset : Nat
  escalationCapLaps : Nat
  capDuty : Nat
  pwmFrequency : PwmFrequency
  deadTime : Nat
  retryDelay : Nat
  resumeCountdown : Nat
  greenDelay : Nat
  detectorFilter : Bool
  edgeLine : DetectorEdge
  edgeSector : DetectorEdge
  stuckLimit : Nat
  deriving DecidableEq, Repr

/-- Every staging field at its default (R40). -/
def Staging.default : Staging where
  heatMode := .timedFreeze
  heatTime := 300
  lapTarget := 50
  grace := 60
  lanesEnabled := Lanes.all true
  driverTags := Lanes.all 0
  sectorUse := .off
  lockout := 200
  nominalLap := 10
  resolution := .ms1
  rounding := .nearestEven
  clockUnderCall := .hold
  confirmMarshalCalls := false
  confirmWindow := 20
  adjudicationWindow := 30
  mergeWindow := 3
  jumpKind := .stopGo
  jumpAmount := 5
  escalationThreshold := 0
  cleanLapReset := 10
  escalationCapLaps := 3
  capDuty := 60
  pwmFrequency := .khz8
  deadTime := 4
  retryDelay := 1000
  resumeCountdown := 3
  greenDelay := 500
  detectorFilter := true
  edgeLine := .leading
  edgeSector := .leading
  stuckLimit := 2000

/-- The phase RESUMING will end in (section 3.3). -/
inductive ResumeTarget where
  | green | finishing
  deriving DecidableEq, Repr

/-- How the heat reached ENDED (section 3.3). -/
inductive Ending where
  | settled | allFinished | grace | aborted | cappedClock
  deriving DecidableEq, Repr

/-- Who made a track call (R52). -/
inductive CallOrigin where
  | port (p : Port)
  | supply
  deriving DecidableEq, Repr

/-- The track-call record (R52). -/
structure TrackCallRecord where
  origin : Option CallOrigin
  raceClock : Option Nat
  stationTime : Option StationTime
  count : Nat
  deriving DecidableEq, Repr

/-- The empty track-call record (R52). -/
def TrackCallRecord.empty : TrackCallRecord := ⟨none, none, none, 0⟩

/-- The five red start lamp outputs (R63). -/
structure RedLamps where
  r1 : Bool
  r2 : Bool
  r3 : Bool
  r4 : Bool
  r5 : Bool
  deriving DecidableEq, Repr

/-- The state of the Heat Controller but for the time bases (section 3.3, R50, R63, R7). -/
structure Heat where
  phase : Phase
  resumeTarget : Option ResumeTarget
  expired : Bool
  ending : Option Ending
  /-- The race clock in ticks of 10 µs (R43). -/
  raceClock : Nat
  expiryTime : Option Nat
  finishReference : Option Nat
  finishingStart : Option StationTime
  countdownStart : Option StationTime
  lampsLit : Nat
  resumeStart : Option StationTime
  trackCall : TrackCallRecord
  jumpMarks : Lanes Bool
  red : RedLamps
  greenLit : Bool
  /-- Station time at which the green lamp last toggled, from which its rhythm is measured (R63). -/
  greenToggled : StationTime
  /-- Station time of the latest entry into GREEN or FINISHING (R7). -/
  racingSince : Option StationTime
  deriving DecidableEq, Repr

/-- The time bases: station time, its subdivision down to the 125 ns output timer, and the PWM train (R42, R147). -/
structure Clock where
  stationTime : StationTime
  /-- Steps of 125 ns since the last sample instant, 0 to 79. -/
  tickSteps : Nat
  /-- Sample instants since the last millisecond of station time, 0 to 99. -/
  msTicks : Nat
  /-- Steps since the last PWM period start. -/
  pwmElapsed : Nat
  /-- Steps left to the next PWM period start; 0 when it is due. -/
  pwmLeft : Nat
  /-- Whether a sample has been taken since the reset (R1, R159). -/
  sampled : Bool
  deriving DecidableEq, Repr

/-! ### Detector Front End (chapter 1) -/

/-- The state of a detector record (section 1.2). -/
inductive DetState where
  | disabled | inService | faulted | out
  deriving DecidableEq, Repr

/-- The fault reason of a detector record (section 1.2). -/
inductive FaultReason where
  | stuck | erratic
  deriving DecidableEq, Repr

/-- A detector record (section 1.2) with its input filter (R1). -/
structure Detector where
  state : DetState
  promoted : Bool
  faultReason : Option FaultReason
  suspectCount : Nat
  lastCapture : Option Nat
  crossingCount : Nat
  brokenStart : Option StationTime
  /-- The filtered level: true for broken (R1). -/
  broken : Bool
  runCount : Nat
  /-- Race clock at the first sample of the run being counted (R2). -/
  runRaceClock : Nat
  /-- Station time at the first sample of the run being counted (R4). -/
  runStationTime : StationTime
  /-- The stuck watch has expired and its conditions have not stopped holding since (R7). -/
  watchExpired : Bool
  deriving DecidableEq, Repr

/-- The sixteen detector records. -/
structure Detectors where
  line : Lanes Detector
  sector : Lanes Detector
  deriving DecidableEq, Repr

/-! ### Crossing Qualifier (chapter 2) -/

/-- A lane's qualification context (section 2.1), with one mark of the model's own. -/
structure Context where
  referenceSet : Bool
  sectorMark : Option Nat
  stopGoMark : Bool
  capMark : Bool
  /-- The lap in progress was opened by a stop-go that started at a crossing taken in HOLD or RESUMING, so it carries UNDER_CALL
  (R134). The model's own field: DESIGN CHOICE (log entry 36). -/
  underCallMark : Bool
  deriving DecidableEq, Repr

/-- Why a crossing is suspect (R21). -/
inductive SuspectReason where
  | tooSoon | noSector
  deriving DecidableEq, Repr

/-- An entry of the adjudication queue (section 2.6). -/
structure Suspect where
  seq : Nat
  lane : Lane
  kind : DetKind
  capture : Nat
  reason : SuspectReason
  arrival : StationTime
  superseded : Bool
  deriving DecidableEq, Repr

/-! ### Lap Store and Scoring Engine (chapters 4 and 5) -/

/-- A lane's status (section 4.1). -/
inductive LaneStatus where
  | out | grid | running | finished | stoodDown
  deriving DecidableEq, Repr

/-- The flags of a history entry (section 4.4). -/
structure LapFlags where
  standing : Bool := false
  underCall : Bool := false
  penaltyLap : Bool := false
  capped : Bool := false
  fallback : Bool := false
  adjudicated : Bool := false
  credited : Bool := false
  noSector : Bool := false
  best : Bool := false
  final : Bool := false
  deriving DecidableEq, Repr

/-- An entry of a lap history (section 4.4). -/
structure Lap where
  number : Nat
  closeTime : Nat
  lapTime : Option Nat
  split : Option Nat
  flags : LapFlags
  deriving DecidableEq, Repr

/-- A lane record with its history and its scoring fields (section 4.1, R101). -/
structure LaneRecord where
  driverTag : Nat
  status : LaneStatus
  /-- Laps counted L. -/
  laps : Nat
  /-- Laps deducted D. -/
  deducted : Nat
  /-- Time penalty TP, in ticks. -/
  timePenalty : Nat
  lastCrossing : Nat
  lastLap : Option Nat
  bestLap : Option Nat
  bestNumber : Option Nat
  timedCount : Nat
  timedSum : Nat
  /-- Average lap, in reported units (R92). -/
  averageLap : Option Nat
  split : Option Nat
  fraction : Option Nat
  finishTime : Option Nat
  position : Nat
  deadHeat : Bool
  fallback : Bool
  rebasePending : Bool
  timingLost : Bool
  /-- Reference lap R (R93). -/
  referenceLap : Nat
  /-- Penalty hundredths P (R96). -/
  penaltyHundredths : Nat
  /-- Timed score S (R97). -/
  score : Nat
  /-- Adjusted time (R99). -/
  adjustedTime : Nat
  /-- The last crossing time in the timed order key, as of the lane's last key change (R22, R98; log entry 19). -/
  keyCrossing : Nat
  /-- Lowest lap number first (R74). -/
  history : List Lap
  deriving DecidableEq, Repr

/-! ### Penalty Book (chapter 6) -/

/-- The kind of a penalty (section 6.2). -/
inductive Kind where
  | warning | stopGo | timeAdd | lapDeduct | powerCap | standdown
  deriving DecidableEq, Repr

/-- The tag of a book slot (section 6.1). -/
inductive Tag where
  | empty | called | active | serving | served | waived
  deriving DecidableEq, Repr

/-- Who called a penalty (section 6.1). -/
inductive Origin where
  | control
  | marshal (p : Port)
  | jumpStart
  | deslotEscalation
  deriving DecidableEq, Repr

/-- The outcome flags of an entry (section 6.1). -/
structure Outcomes where
  lapsed : Bool := false
  converted : Bool := false
  truncated : Bool := false
  unserved : Bool := false
  deriving DecidableEq, Repr

/-- A book slot and the entry in it (section 6.1). An EMPTY slot keeps its other fields as last left (R105). -/
structure Entry where
  tag : Tag
  seq : Nat
  lane : Lane
  kind : Kind
  amount : Nat
  origin : Origin
  callTime : Nat
  callStation : StationTime
  activationTime : Option Nat
  closeTime : Option Nat
  mergeCount : Nat
  outcomes : Outcomes
  /-- Stop-go milliseconds or cap laps left to serve (R108). -/
  progress : Option Nat
  deriving DecidableEq, Repr

/-- The penalty book: 16 slots, the sequence counter, the dropped-record count, and the slots of the closed entries in
closing order, the first closed first (R105 to R107, R122). -/
structure Book where
  slots : List Entry
  nextSeq : Nat
  dropped : Nat
  closed : List Nat
  deriving DecidableEq, Repr

/-- A lane's deslot count, clean-lap count and deslot merge mark (section 6.9). -/
structure DeslotRecord where
  count : Nat
  clean : Nat
  mark : Option StationTime
  deriving DecidableEq, Repr

/-! ### Penalty Server (chapter 7) -/

/-- A channel: its waiting entries in activation order and its serving entry, by sequence number (section 7.1). -/
structure Channel where
  waiting : List Nat
  serving : Option Nat
  deriving DecidableEq, Repr

/-- The two channels of a lane (section 7.1). -/
structure Channels where
  stop : Channel
  cap : Channel
  deriving DecidableEq, Repr

/-- The condition a lane lamp shows (R143). -/
inductive LampCondition where
  | off | steady | flash1 | flash2 | flash4
  deriving DecidableEq, Repr

/-- A lane lamp: the condition it shows, its output, and the station time its rhythm is measured from (R143, R144). -/
structure Lamp where
  condition : LampCondition
  lit : Bool
  toggled : StationTime
  deriving DecidableEq, Repr

/-! ### Lane Power Stage (chapter 8) -/

/-- The power state of a lane, highest precedence first (section 8.1). It is derived, never stored (R145). -/
inductive PowerState where
  | tripped | off | held | cut | capped | full
  deriving DecidableEq, Repr

/-- A lane's outputs, PWM phase and trip context (R147, R148, section 8.3). -/
structure PowerLane where
  drive : Bool
  brake : Bool
  /-- Steps for which the drive has been off, stopping at 504; 0 while it is on (R148). -/
  driveOff : Nat
  /-- Steps for which the brake has been off, stopping at 504; 0 while it is on (R148). -/
  brakeOff : Nat
  /-- The PWM phase: the on-time fixed at the present period start, absent where the drive did not turn on there (R147). -/
  onTime : Option Nat
  /-- The model's own field (log entry 37): the lane has been CAPPED ever since the period start that fixed its on-time, so that
  its drive may be on (R149). -/
  pulsing : Bool
  tripped : Bool
  locked : Bool
  retryCount : Nat
  retryDelayEnd : Option StationTime
  retryWatch : Option Nat
  /-- The armed retry watch has started: the drive has turned on since it was armed (R154). -/
  watchStarted : Bool
  driveOnRun : Nat
  /-- The overcurrent input's filtered level, true for asserted (R151). -/
  overcurrent : Bool
  overcurrentRun : Nat
  deriving DecidableEq, Repr

/-- The track-supply-low filter (R159): filtered level, true for asserted, and run count. -/
structure SupplyFilter where
  low : Bool
  runCount : Nat
  deriving DecidableEq, Repr

/-! ### Exception Unit (chapter 9) -/

/-- The six exception kinds (section 9.1). -/
inductive ExcKind where
  | suspect | detector | overcurrent | supply | book | saturation
  deriving DecidableEq, Repr

/-- The detail codes of the six kinds (section 9.1). -/
inductive Detail where
  | tooSoon | noSector
  | stuck | erratic
  | trip | retryFailed | locked
  | low
  | refused | lost
  | lapsCounted | lapsDeducted | timePenalty | adjustedTime
  deriving DecidableEq, Repr

/-- The source field of a capture record (R165). -/
inductive Source where
  | detector (k : DetKind)
  | port (p : Port)
  | jumpStart
  | deslotEscalation
  deriving DecidableEq, Repr

/-- A capture record that is not empty (R165). -/
structure Capture where
  lane : Option Lane
  source : Option Source
  raceClock : Nat
  stationTime : StationTime
  detail : Detail
  deriving DecidableEq, Repr

/-- An exception record (R163). An empty capture record is `none`. -/
structure ExcRecord where
  flag : Bool
  mask : Bool
  repeatCount : Nat
  capture : Option Capture
  deriving DecidableEq, Repr

/-- The six exception records. -/
structure Exceptions where
  suspect : ExcRecord
  detector : ExcRecord
  overcurrent : ExcRecord
  supply : ExcRecord
  book : ExcRecord
  saturation : ExcRecord
  deriving DecidableEq, Repr

/-! ### Station Ports (chapter 10) -/

/-- The role of a port (R174). -/
inductive Role where
  | control | marshal | display
  deriving DecidableEq, Repr

/-- The receive state of a port, with the bytes held of the frame in progress (R176). -/
inductive Receive where
  | waiting
  | receiving (bytes : List Byte)
  | answering
  | discarding
  deriving DecidableEq, Repr

/-- The reasons of a refusal, in the order of R180. -/
inductive Reason where
  | frameCheck | unknownRequest | role | wrongPhase | noLane | noEntry | wrongState | bookFull | readOnly
  deriving DecidableEq, Repr

/-- The status of a response (R180). -/
inductive Status where
  | done | merged | already
  | refused (r : Reason)
  deriving DecidableEq, Repr

/-- A response being sent: the status, the echoed request code and the data (R179, R196). -/
structure Response where
  status : Status
  echo : Byte
  data : Word
  deriving DecidableEq, Repr

/-- The spaces of the window (R183). -/
inductive Space where
  | lanes
  | history (l : Lane)
  | book | order | adjudication | detectors | exceptions | staging | ports
  deriving DecidableEq, Repr

/-- The stepping mode of the window (R183). -/
inductive Mode where
  | steady | step | stepOnWrite
  deriving DecidableEq, Repr

/-- The window context of a port that has been pointed (R183). -/
structure Window where
  space : Space
  record : Nat
  word : Nat
  mode : Mode
  deriving DecidableEq, Repr

/-- A port's snapshot: the words of one record with the race clock and station time of the copy (R183, R186). -/
structure Snapshot where
  words : List Word
  raceClock : Nat
  stationTime : StationTime
  deriving DecidableEq, Repr

/-- A set of the seven alert items (R188). -/
structure AlertSet where
  order : Bool := false
  lap : Bool := false
  penalty : Bool := false
  phase : Bool := false
  adjudication : Bool := false
  exception : Bool := false
  trackCall : Bool := false
  deriving DecidableEq, Repr

/-- The classes of the event counter (R190). -/
inductive CounterClass where
  | frameErrors | refusals | laps | suspects | merges
  deriving DecidableEq, Repr

/-- The state of a port (section 10). -/
structure PortState where
  receive : Receive
  /-- Station time at the stop bit of the last byte (R176, R177). -/
  lastByte : Option StationTime
  /-- A byte has been discarded as overrun during this response (R178). -/
  overrun : Bool
  response : Option Response
  transmitEnable : Bool
  window : Option Window
  snapshot : Option Snapshot
  alerts : AlertSet
  alertMask : AlertSet
  counterClass : CounterClass
  counter : Nat
  deriving DecidableEq, Repr

/-- The choice of a RESET PART request (R191). -/
inductive ResetChoice where
  | clear | keep
  deriving DecidableEq, Repr

/-! ### Pins -/

/-- The levels of the input pins, which are the environment's (section 2.1 of the scope); true for asserted, or high for a
strap. -/
structure Pins where
  line : Lanes Bool
  sector : Lanes Bool
  overcurrent : Lanes Bool
  supplyLow : Bool
  straps : Straps
  /-- The reset pin is asserted: the part is held as it is after a reset (R174). -/
  reset : Bool
  deriving DecidableEq, Repr

/-! ### The state -/

/-- The whole state of the part, and the queue of waiting commands. -/
structure State where
  /-- The commands that wait, first in, first out: the model's own field. -/
  pending : List Instr
  pins : Pins
  /-- The strap levels sampled at power-on or at the last release of the reset pin (R174). -/
  straps : Straps
  clock : Clock
  staging : Staging
  heat : Heat
  detectors : Detectors
  contexts : Lanes Context
  /-- The adjudication queue, the oldest first (R30). -/
  queue : List Suspect
  /-- The number the next adjudication entry will receive (R30). -/
  queueSeq : Nat
  lanes : Lanes LaneRecord
  /-- The running order, position 1 first (section 4.6). -/
  order : List Lane
  book : Book
  deslots : Lanes DeslotRecord
  channels : Lanes Channels
  lamps : Lanes Lamp
  power : Lanes PowerLane
  supply : SupplyFilter
  exceptions : Exceptions
  ports : Ports PortState
  /-- The choice of a RESET PART request whose response is being sent (R191). -/
  pendingReset : Option ResetChoice
  deriving DecidableEq, Repr

/-- Why the machine stops with a fault. No command of the part and no step of its clock stops it, so no constructor is
ever answered; the one below says what such a stop would be. -/
inductive Fault where
  /-- Raised by nothing: the spec gives every command an effect (INVENTORY.md, Faults). Safe. -/
  | neverRaised
  deriving DecidableEq, Repr

/-- Why a command has no meaning. -/
inductive Refusal where
  /-- Answered by an arm of `exec` for a command that has no meaning yet; no arm is left that does. Safe. -/
  | notModelled (mnemonic : String)
  deriving DecidableEq, Repr

/-! ### Reset values -/

/-- All red lamps out. -/
def RedLamps.out : RedLamps := ⟨false, false, false, false, false⟩

/-- The heat state after power-on (R64). -/
def Heat.reset : Heat where
  phase := .idle
  resumeTarget := none
  expired := false
  ending := none
  raceClock := 0
  expiryTime := none
  finishReference := none
  finishingStart := none
  countdownStart := none
  lampsLit := 0
  resumeStart := none
  trackCall := TrackCallRecord.empty
  jumpMarks := Lanes.all false
  red := RedLamps.out
  greenLit := false
  greenToggled := 0
  racingSince := none

/-- The time bases after any reset (R42, R147): the first PWM period start falls at the first step. -/
def Clock.reset : Clock where
  stationTime := 0
  tickSteps := 0
  msTicks := 0
  pwmElapsed := 0
  pwmLeft := 1
  sampled := false

/-- A detector record in IDLE (R6), its filter before the first sample (log entry 7). -/
def Detector.reset : Detector where
  state := .disabled
  promoted := false
  faultReason := none
  suspectCount := 0
  lastCapture := none
  crossingCount := 0
  brokenStart := none
  broken := false
  runCount := 0
  runRaceClock := 0
  runStationTime := 0
  watchExpired := false

/-- A lane context in its starting state (R17). -/
def Context.reset : Context := ⟨false, none, false, false, false⟩

/-- A lane record with no laps and no penalties, given its driver tag, status, position and nominal lap (R65, R101). -/
def LaneRecord.fresh (tag : Nat) (status : LaneStatus) (position : Nat) (nominalLap : Nat) : LaneRecord where
  driverTag := tag
  status := status
  laps := 0
  deducted := 0
  timePenalty := 0
  lastCrossing := 0
  lastLap := none
  bestLap := none
  bestNumber := none
  timedCount := 0
  timedSum := 0
  averageLap := none
  split := none
  fraction := none
  finishTime := none
  position := position
  deadHeat := false
  fallback := false
  rebasePending := false
  timingLost := false
  referenceLap := nominalLap * Config.ticksPerSecond
  penaltyHundredths := 0
  score := 0
  adjustedTime := 0
  keyCrossing := 0
  history := []

/-- A slot never used (log entry 10). -/
def Entry.unused : Entry where
  tag := .empty
  seq := 0
  lane := .l1
  kind := .warning
  amount := 0
  origin := .control
  callTime := 0
  callStation := 0
  activationTime := none
  closeTime := none
  mergeCount := 0
  outcomes := {}
  progress := none

/-- The book after power-on (R129). -/
def Book.reset : Book := ⟨List.replicate Config.bookSlots Entry.unused, 1, 0, []⟩

/-- Zero counts, no merge mark (R129). -/
def DeslotRecord.reset : DeslotRecord := ⟨0, 0, none⟩

/-- Empty channels (R131). -/
def Channels.empty : Channels := ⟨⟨[], none⟩, ⟨[], none⟩⟩

/-- A lane lamp that is off (R144). -/
def Lamp.reset : Lamp := ⟨.off, false, 0⟩

/-- A lane's outputs and trip context after any reset (R162). The PWM phase, which R147 and R162 give no value between a reset
and the first period start, is absent: DESIGN CHOICE (log entry 38). -/
def PowerLane.reset : PowerLane where
  drive := false
  brake := false
  driveOff := 0
  brakeOff := 0
  onTime := none
  pulsing := false
  tripped := false
  locked := false
  retryCount := 0
  retryDelayEnd := none
  retryWatch := none
  watchStarted := false
  driveOnRun := 0
  overcurrent := false
  overcurrentRun := 0

/-- An exception record after power-on: clear, masked, empty (R166, R173). -/
def ExcRecord.reset : ExcRecord := ⟨false, true, 0, none⟩

/-- The exception records after power-on (R173). -/
def Exceptions.reset : Exceptions :=
  ⟨ExcRecord.reset, ExcRecord.reset, ExcRecord.reset, ExcRecord.reset, ExcRecord.reset, ExcRecord.reset⟩

/-- The role of a port under the straps in force: port 0 is CONTROL, a low strap gives MARSHAL and a high one DISPLAY
(R174). -/
def portRole (straps : Straps) : Port → Role
  | .p0 => .control
  | .p1 => if straps.role1 then .display else .marshal
  | .p2 => if straps.role2 then .display else .marshal
  | .p3 => if straps.role3 then .display else .marshal

/-- The default alert mask of a role (R189). -/
def Role.defaultMask : Role → AlertSet
  | .control => ⟨true, true, true, true, true, true, true⟩
  | .marshal => { phase := true, trackCall := true, penalty := true }
  | .display => { order := true, lap := true, phase := true }

/-- A port of the role after any reset (R193). -/
def PortState.reset (r : Role) : PortState where
  receive := .waiting
  lastByte := none
  overrun := false
  response := none
  transmitEnable := false
  window := none
  snapshot := none
  alerts := {}
  alertMask := r.defaultMask
  counterClass := .frameErrors
  counter := 0

/-- The four ports after any reset, under the straps in force (R193). -/
def resetPorts (straps : Straps) : Ports PortState :=
  ⟨PortState.reset (portRole straps .p0), PortState.reset (portRole straps .p1),
   PortState.reset (portRole straps .p2), PortState.reset (portRole straps .p3)⟩

/-- Straps all low (log entry 8). -/
def Straps.low : Straps := ⟨false, false, false, false, false⟩

/-- Input pins all deasserted (log entry 6). -/
def Pins.quiet : Pins := ⟨Lanes.all false, Lanes.all false, Lanes.all false, false, Straps.low, false⟩

/-- The state after power-on with the given straps in force, input pins and waiting commands; the chapters give each value
(R6, R17, R40, R64, R65, R80, R129, R131, R144, R162, R173, R193). -/
def State.poweredOn (pending : List Instr) (pins : Pins) (straps : Straps) : State where
  pending := pending
  pins := pins
  straps := straps
  clock := Clock.reset
  staging := Staging.default
  heat := Heat.reset
  detectors := ⟨Lanes.all Detector.reset, Lanes.all Detector.reset⟩
  contexts := Lanes.all Context.reset
  queue := []
  queueSeq := 1
  lanes := Lanes.all (LaneRecord.fresh 0 .out 0 Staging.default.nominalLap)
  order := []
  book := Book.reset
  deslots := Lanes.all DeslotRecord.reset
  channels := Lanes.all Channels.empty
  lamps := Lanes.all Lamp.reset
  power := Lanes.all PowerLane.reset
  supply := ⟨false, 0⟩
  exceptions := Exceptions.reset
  ports := resetPorts straps
  pendingReset := none

/-- The machine right after power-on, with no command waiting, every input quiet and every strap low. -/
def State.reset : State := State.poweredOn [] Pins.quiet Straps.low

end Sys2Proof.Machine
end

