-- ==== Sys2Proof/Machine/Flags.lean ====
section
/-! DEFINITION. The sets of flags: alert items and the alert line, the exception summary and FAULT, lap flags and outcome
flags, and their set words (R194). -/

namespace Sys2Proof.Machine

/-- A word whose bit k is member k of the list: the set encoding of R194, first member in bit 0. -/
def setWord (members : List Bool) : Word :=
  BitVec.ofNat 16 (members.foldr (fun b acc => b.toNat + 2 * acc) 0)

/-! ### Alert items (R188, R189) -/

/-- The seven alert items (section 10.5). -/
inductive Alert where
  | order | lap | penalty | phase | adjudication | exception | trackCall
  deriving DecidableEq, Repr

/-- An item joins a set; an item already in it stays (R188). -/
def AlertSet.insert (a : Alert) (x : AlertSet) : AlertSet :=
  match a with
  | .order => { x with order := true }
  | .lap => { x with lap := true }
  | .penalty => { x with penalty := true }
  | .phase => { x with phase := true }
  | .adjudication => { x with adjudication := true }
  | .exception => { x with exception := true }
  | .trackCall => { x with trackCall := true }

/-- Whether an item is in a set. -/
def AlertSet.has (x : AlertSet) : Alert → Bool
  | .order => x.order | .lap => x.lap | .penalty => x.penalty | .phase => x.phase
  | .adjudication => x.adjudication | .exception => x.exception | .trackCall => x.trackCall

/-- The members of an alert set in the order of section 10.5. -/
def AlertSet.members (x : AlertSet) : List Bool :=
  [x.order, x.lap, x.penalty, x.phase, x.adjudication, x.exception, x.trackCall]

/-- The set word of an alert set (R194). -/
def AlertSet.toWord (x : AlertSet) : Word := setWord x.members

/-- The alert set a word names; bits beyond the last member are ignored (R194). -/
def AlertSet.ofWord (w : Word) : AlertSet :=
  ⟨w.getLsbD 0, w.getLsbD 1, w.getLsbD 2, w.getLsbD 3, w.getLsbD 4, w.getLsbD 5, w.getLsbD 6⟩

/-- Two alert sets share an item. -/
def AlertSet.shares (x y : AlertSet) : Bool :=
  x.order && y.order || x.lap && y.lap || x.penalty && y.penalty || x.phase && y.phase ||
    x.adjudication && y.adjudication || x.exception && y.exception || x.trackCall && y.trackCall

/-- A port's alert line: asserted exactly when its alert status and alert mask share an item (R189). -/
def alertLine (s : State) (p : Port) : Bool := (s.ports.get p).alerts.shares (s.ports.get p).alertMask

/-! ### Exceptions (R163, R167) -/

/-- The record of a kind. -/
def Exceptions.get (x : Exceptions) : ExcKind → ExcRecord
  | .suspect => x.suspect | .detector => x.detector | .overcurrent => x.overcurrent
  | .supply => x.supply | .book => x.book | .saturation => x.saturation

/-- The records with one kind's replaced. -/
def Exceptions.set (x : Exceptions) (k : ExcKind) (r : ExcRecord) : Exceptions :=
  match k with
  | .suspect => { x with suspect := r }
  | .detector => { x with detector := r }
  | .overcurrent => { x with overcurrent := r }
  | .supply => { x with supply := r }
  | .book => { x with book := r }
  | .saturation => { x with saturation := r }

/-- A function of each record, in the order of section 9.1. -/
def Exceptions.list {α : Type} (f : ExcRecord → α) (x : Exceptions) : List α :=
  [f x.suspect, f x.detector, f x.overcurrent, f x.supply, f x.book, f x.saturation]

/-- A kind's flag is set and its mask clear: the kind holds the summary up (R167). -/
def ExcRecord.unmaskedFlag (r : ExcRecord) : Bool := r.flag && !r.mask

/-- The exception summary: at least one flag whose mask is clear is set (R167). -/
def Exceptions.summary (x : Exceptions) : Bool := (x.list ExcRecord.unmaskedFlag).any id

/-- The FAULT output: asserted while the summary is set (R167). -/
def faultOutput (s : State) : Bool := s.exceptions.summary

/-- The set word of the kinds whose flags are set (R168, R170). -/
def Exceptions.flagWord (x : Exceptions) : Word := setWord (x.list ExcRecord.flag)

/-- The set word of the kinds that hold the summary up (R167, R195). -/
def Exceptions.holdingWord (x : Exceptions) : Word := setWord (x.list ExcRecord.unmaskedFlag)

/-! ### Lap flags and outcome flags -/

/-- A lap with these flags is eligible for best (R71). -/
def LapFlags.eligible (f : LapFlags) : Bool :=
  !(f.standing || f.underCall || f.penaltyLap || f.capped || f.fallback || f.adjudicated || f.credited || f.noSector)

/-- The set word of a lap's flags, in the order of section 4.4. -/
def LapFlags.toWord (f : LapFlags) : Word :=
  setWord [f.standing, f.underCall, f.penaltyLap, f.capped, f.fallback, f.adjudicated, f.credited, f.noSector,
    f.best, f.final]

/-- The set word of an entry's outcome flags, in the order of section 6.1. -/
def Outcomes.toWord (o : Outcomes) : Word := setWord [o.lapsed, o.converted, o.truncated, o.unserved]

end Sys2Proof.Machine
end

