-- ==== Sys2Proof/Machine/Ops.lean ====
section
/-! DEFINITION. The shared operations: reading and writing the parts of the state, posting alerts, counting events, raising
exceptions, and the replies of requests. -/

namespace Sys2Proof.Machine

/-! ### Parts of the state -/

/-- Present station time (R42). -/
def State.now (s : State) : StationTime := s.clock.stationTime

/-- The heat phase. -/
def State.phase (s : State) : Phase := s.heat.phase

/-- A lane's record. -/
def State.lane (s : State) (l : Lane) : LaneRecord := s.lanes.get l

/-- A lane's record changed. -/
def State.modLane (s : State) (l : Lane) (f : LaneRecord → LaneRecord) : State :=
  { s with lanes := s.lanes.set l (f (s.lanes.get l)) }

/-- The heat state changed. -/
def State.modHeat (s : State) (f : Heat → Heat) : State := { s with heat := f s.heat }

/-- A lane's qualification context changed. -/
def State.modContext (s : State) (l : Lane) (f : Context → Context) : State :=
  { s with contexts := s.contexts.set l (f (s.contexts.get l)) }

/-- A lane's channels changed. -/
def State.modChannels (s : State) (l : Lane) (f : Channels → Channels) : State :=
  { s with channels := s.channels.set l (f (s.channels.get l)) }

/-- A lane's power fields changed. -/
def State.modPower (s : State) (l : Lane) (f : PowerLane → PowerLane) : State :=
  { s with power := s.power.set l (f (s.power.get l)) }

/-- A lane's deslot record changed. -/
def State.modDeslot (s : State) (l : Lane) (f : DeslotRecord → DeslotRecord) : State :=
  { s with deslots := s.deslots.set l (f (s.deslots.get l)) }

/-- A port changed. -/
def State.modPort (s : State) (p : Port) (f : PortState → PortState) : State :=
  { s with ports := s.ports.set p (f (s.ports.get p)) }

/-- A detector record. -/
def State.detector (s : State) (l : Lane) : DetKind → Detector
  | .line => s.detectors.line.get l
  | .sector => s.detectors.sector.get l

/-- A detector record changed. -/
def State.modDetector (s : State) (l : Lane) (k : DetKind) (f : Detector → Detector) : State :=
  match k with
  | .line => { s with detectors := { s.detectors with line := s.detectors.line.set l (f (s.detectors.line.get l)) } }
  | .sector => { s with detectors := { s.detectors with sector := s.detectors.sector.set l (f (s.detectors.sector.get l)) } }

/-- A port's role under the straps in force (R174). -/
def State.role (s : State) (p : Port) : Role := portRole s.straps p

/-- The phases in which laps are raced: the heat can end by no lane left RUNNING in them (R58). -/
def Phase.racing : Phase → Bool
  | .green | .hold | .resuming | .finishing => true
  | .idle | .staged | .countdown | .settling | .ended => false

/-- At or after the green event, while the heat is not over (R10). -/
def Phase.atOrAfterGreen : Phase → Bool
  | .green | .hold | .resuming | .finishing | .settling => true
  | .idle | .staged | .countdown | .ended => false

/-! ### Alerts and counters -/

/-- An alert item is posted to every port, whatever its role and mask (R188). -/
def post (a : Alert) (s : State) : State :=
  { s with ports := s.ports.mapPort fun _ x => { x with alerts := x.alerts.insert a } }

/-- A count saturating at 255. -/
def bump255 (n : Nat) : Nat := min 255 (n + 1)

/-- An event of a class is counted by every port that has the class selected (R190). -/
def countEvent (c : CounterClass) (s : State) : State :=
  { s with ports := s.ports.mapPort fun _ x =>
      if x.counterClass = c then { x with counter := bump255 x.counter } else x }

/-- A frame error is counted on its own port only (R190). -/
def frameError (p : Port) (s : State) : State :=
  s.modPort p fun x => if x.counterClass = .frameErrors then { x with counter := bump255 x.counter } else x

/-! ### Exceptions -/

/-- The exception records are replaced; EXCEPTION is posted when the summary passes from clear to set (R167). -/
def withExceptions (e : Exceptions) (s : State) : State :=
  let t := { s with exceptions := e }
  if !s.exceptions.summary && e.summary then post .exception t else t

/-- A record after an occurrence: the flag is set; the first occurrence since it was clear fills the capture record, a
later one raises the repeat count up to 15 (R164). -/
def ExcRecord.occur (r : ExcRecord) (c : Capture) : ExcRecord :=
  if r.flag then { r with repeatCount := min 15 (r.repeatCount + 1) }
  else { r with flag := true, repeatCount := 0, capture := some c }

/-- One occurrence of a kind, with the race clock and station time at which it is taken (R163 to R165). -/
def raise (k : ExcKind) (lane : Option Lane) (source : Option Source) (d : Detail) (s : State) : State :=
  withExceptions
    (s.exceptions.set k ((s.exceptions.get k).occur ⟨lane, source, s.heat.raceClock, s.now, d⟩)) s

/-- A kind is masked: its owning block takes the default action (R163, R166). -/
def masked (k : ExcKind) (s : State) : Bool := (s.exceptions.get k).mask

/-! ### Replies -/

/-- What the owning block answers to a request (R179, R180). -/
structure Reply where
  status : Status
  data : Word
  deriving DecidableEq, Repr

/-- A number as a data word (R197: "sent as it is"). -/
def dataOf (n : Nat) : Word := BitVec.ofNat 16 n

/-- A request that is carried out, with its data. -/
def done (n : Nat) (s : State) : State × Reply := (s, ⟨.done, dataOf n⟩)

/-- A request that is refused: nothing of the owning block changes, and the data is 0 (R179, R180). -/
def refuse (r : Reason) (s : State) : State × Reply := (s, ⟨.refused r, 0⟩)

/-! ### Commands while the reset pin is asserted -/

/-- While the reset pin is asserted the part is held as it is after a reset (R174): a command then has no effect. -/
def whileRunning (s : State) (f : State → State) : Host.Outcome State Fault Refusal :=
  .next (if s.pins.reset then s else f s)

/-- A timer or an input event whose condition does not hold when it is taken has no effect (log entry 4). -/
def onlyIf (due : Bool) (f : State → State) (s : State) : State := if due then f s else s

end Sys2Proof.Machine
end

