-- ==== Sys2Proof/Machine/Scoring.lean ====
section
/-! DEFINITION. The Scoring Engine (chapter 5): reported times, reference lap, fraction, penalty hundredths, score, adjusted
time, and the rescoring of a lane at a key change. Every quantity is an exact integer (R86). -/

namespace Sys2Proof.Machine

/-- The resolution r in ticks (R90). -/
def Resolution.ticks : Resolution → Nat
  | .us10 => 1 | .us100 => 10 | .ms1 => 100 | .ms10 => 1000

/-- `t` divided by `d` and rounded by the rounding mode (R90, R92). -/
def roundedQuotient (m : Rounding) (t d : Nat) : Nat :=
  let q := t / d
  let r := t % d
  match m with
  | .down => q
  | .up => if 0 < r then q + 1 else q
  | .nearestEven => if d < 2 * r ∨ (2 * r = d ∧ q % 2 = 1) then q + 1 else q

/-- The reported value of a tick value at the resolution and rounding mode in force (R90). -/
def reported (st : Staging) (t : Nat) : Nat := roundedQuotient st.rounding t st.resolution.ticks

/-- The average lap: absent while no timed lap is counted, otherwise the whole sum rounded once (R92). -/
def averageOf (st : Staging) (count sum : Nat) : Option Nat :=
  if count = 0 then none else some (roundedQuotient st.rounding sum (count * st.resolution.ticks))

/-- The lockout in ticks (R21). -/
def lockoutTicks (st : Staging) : Nat := st.lockout * Config.ticksPerLockout

/-- The reference lap R: the best lap, else the last lap if it is at least the lockout, else the nominal lap (R93). -/
def referenceLapOf (st : Staging) (r : LaneRecord) : Nat :=
  match r.bestLap with
  | some b => b
  | none =>
    match r.lastLap with
    | some t => if lockoutTicks st ≤ t then t else st.nominalLap * Config.ticksPerSecond
    | none => st.nominalLap * Config.ticksPerSecond

/-- Penalty hundredths P: TP in hundredths of the reference lap, rounded up (R96). -/
def penaltyHundredthsOf (timePenalty reference : Nat) : Nat :=
  if timePenalty = 0 then 0
  else
    let n := timePenalty * 100
    if n % reference = 0 then n / reference else n / reference + 1

/-- Net laps N = L − D, signed (section 4.1). -/
def LaneRecord.netLaps (r : LaneRecord) : Int := (r.laps : Int) - (r.deducted : Int)

/-- Net laps shown: the greater of N and 0 (R101). -/
def LaneRecord.netShown (r : LaneRecord) : Nat := r.netLaps.toNat

/-- The timed score S: 100 × (L − D) + f − P with an absent fraction taken as 0, floored at 0 (R97). -/
def scoreOf (r : LaneRecord) (penalty : Nat) : Nat :=
  (100 * r.netLaps + ((r.fraction.getD 0 : Nat) : Int) - (penalty : Int)).toNat

/-- The time the adjusted time starts from: the finish time of a FINISHED lane, else the last crossing time (R99). -/
def adjustedBase (r : LaneRecord) : Nat :=
  if r.status = .finished then r.finishTime.getD r.lastCrossing else r.lastCrossing

/-- The fraction of a lane, in hundredths of its reference lap and never a whole lap; 0 for a lane that is FINISHED or
STOOD_DOWN (R95). -/
def fractionOf (st : Staging) (expiry : Nat) (r : LaneRecord) : Nat :=
  match r.status with
  | .grid | .running => min 99 (100 * (expiry - r.lastCrossing) / referenceLapOf st r)
  | .out | .finished | .stoodDown => 0

/-- The lane record with its scoring fields computed anew, in the order of R104. -/
def LaneRecord.rescored (st : Staging) (r : LaneRecord) : LaneRecord :=
  let reference := referenceLapOf st r
  let penalty := penaltyHundredthsOf r.timePenalty reference
  { r with
    referenceLap := reference
    penaltyHundredths := penalty
    score := scoreOf r penalty
    adjustedTime := min Config.top32 (adjustedBase r + r.timePenalty)
    keyCrossing := r.lastCrossing }

/-- A key change of a lane: its scoring fields are computed; an adjusted time that saturates raises SATURATION (R81, R88,
R99, R104). -/
def rescore (l : Lane) (s : State) : State :=
  let r := s.lane l
  let t := s.modLane l (LaneRecord.rescored s.staging)
  if Config.top32 < adjustedBase r + r.timePenalty then raise .saturation (some l) none .adjustedTime t else t

/-- TP rises by ticks, saturating, and raises SATURATION where the sum would pass the top (R73, R88, R102). The key change
follows at the end of the event (R104). -/
def addPenaltyTime (l : Lane) (ticks : Nat) (s : State) : State :=
  let sum := (s.lane l).timePenalty + ticks
  let t := s.modLane l fun r => { r with timePenalty := min Config.top32 sum }
  if Config.top32 < sum then raise .saturation (some l) none .timePenalty t else t

/-- D rises by an amount, saturating at 999, and raises SATURATION where it would pass 999 (R73, R88). -/
def addDeduction (l : Lane) (amount : Nat) (s : State) : State :=
  let sum := (s.lane l).deducted + amount
  let t := s.modLane l fun r => { r with deducted := min Config.topDeducted sum }
  if Config.topDeducted < sum then raise .saturation (some l) none .lapsDeducted t else t

end Sys2Proof.Machine
end

