-- ==== Sys2Proof/Machine/Order.lean ====
section
/-! DEFINITION. The running order (section 4.6): the order keys, the stable sort, positions and dead-heat marks. -/

namespace Sys2Proof.Machine

/-- Insert before the first element that `x` does not have to follow. -/
def insertStable {α : Type} (le : α → α → Bool) (x : α) : List α → List α
  | [] => [x]
  | y :: ys => if le x y then x :: y :: ys else y :: insertStable le x ys

/-- A stable sort (R82). -/
def sortStable {α : Type} (le : α → α → Bool) : List α → List α
  | [] => []
  | x :: xs => insertStable le x (sortStable le xs)

/-- The timed key ranks `a` strictly before `b`: S the greater first, then last crossing time the earlier first (R98). -/
def timedBefore (a b : LaneRecord) : Bool :=
  decide (b.score < a.score) || (decide (a.score = b.score) && decide (a.keyCrossing < b.keyCrossing))

/-- The lap-target key ranks `a` strictly before `b`: N the greater first, then adjusted time the earlier first (R99). -/
def targetBefore (a b : LaneRecord) : Bool :=
  decide (b.netLaps < a.netLaps) || (decide (a.netLaps = b.netLaps) && decide (a.adjustedTime < b.adjustedTime))

/-- The order key of the heat mode (R82). -/
def keyBefore (m : HeatMode) (a b : LaneRecord) : Bool :=
  match m with
  | .timedFreeze => timedBefore a b
  | .timedRunToLine => timedBefore a b
  | .lapTarget => targetBefore a b

/-- The primary parts of two keys are equal: S, or N together with the reported adjusted time (R83, R100). -/
def primaryEqual (st : Staging) (a b : LaneRecord) : Bool :=
  match st.heatMode with
  | .timedFreeze | .timedRunToLine => decide (a.score = b.score)
  | .lapTarget => decide (a.netLaps = b.netLaps) && decide (reported st a.adjustedTime = reported st b.adjustedTime)

/-- A lane in GRID, RUNNING or FINISHED: the first group of the list (R82). -/
def LaneStatus.ranked : LaneStatus → Bool
  | .grid | .running | .finished => true
  | .out | .stoodDown => false

/-- The list sorted anew: the ranked lanes by key from the list as it stands, then the stood-down lanes in ascending lane
number (R82). -/
def sortedOrder (s : State) : List Lane :=
  let ranked := s.order.filter fun l => (s.lane l).status != .stoodDown
  sortStable (fun a b => !keyBefore s.staging.heatMode (s.lane b) (s.lane a)) ranked ++
    Lane.all.filter fun l => s.order.contains l && (s.lane l).status == .stoodDown

/-- A lane's place in a list, from 1; 0 for a lane not in it (R82). -/
def placeIn (l : Lane) : List Lane → Nat
  | [] => 0
  | x :: xs =>
    if x = l then 1
    else
      match placeIn l xs with
      | 0 => 0
      | n + 1 => n + 2

/-- Two adjacent lanes are in dead heat: both ranked, both with a lap counted, primary keys equal (R83). -/
def inDeadHeat (s : State) (a b : Lane) : Bool :=
  (s.lane a).status.ranked && (s.lane b).status.ranked && decide (1 ≤ (s.lane a).laps) && decide (1 ≤ (s.lane b).laps) &&
    primaryEqual s.staging (s.lane a) (s.lane b)

/-- A lane is in dead heat with the lane before it or the lane after it in the list (R83). -/
def deadHeatMark (s : State) (l : Lane) : List Lane → Bool
  | a :: b :: rest => (inDeadHeat s a b && (a == l || b == l)) || deadHeatMark s l (b :: rest)
  | _ => false

/-- The positions and dead-heat marks of two sets of lane records differ somewhere (R84). -/
def placesDiffer (x y : Lanes LaneRecord) : Bool :=
  Lane.all.any fun l => (x.get l).position != (y.get l).position || (x.get l).deadHeat != (y.get l).deadHeat

/-- A reorder: the list is sorted, positions and dead-heat marks are set, and ORDER is posted when one of them changes (R82
to R84). -/
def reorder (s : State) : State :=
  let list := sortedOrder s
  let lanes := s.lanes.mapLane fun l r => { r with position := placeIn l list, deadHeat := deadHeatMark s l list }
  let t := { s with order := list, lanes := lanes }
  if placesDiffer s.lanes lanes then post .order t else t

end Sys2Proof.Machine
end

