-- ==== Sys2Proof/Machine/Entries.lean ====
section
/-! DEFINITION. The slots of the penalty book and the sequence numbers (sections 6.1 and 2.6): finding, changing and closing
an entry. -/

namespace Sys2Proof.Machine

/-- The number after a sequence number: from 65,535 to 1, passing over 0 (R30, R106). -/
def succSeq (n : Nat) : Nat := if n < Config.top16 then n + 1 else 1

/-- The first number, from `n` on, that is held by none; `fuel` bounds the search (R30, R106). -/
def freeSeq (held : List Nat) : Nat → Nat → Nat
  | 0, n => n
  | fuel + 1, n => if held.contains n then freeSeq held fuel (succSeq n) else n

/-- The first slot, in ascending number, whose entry satisfies a test. -/
def findSlot (test : Entry → Bool) : List Entry → Option Nat
  | [] => none
  | e :: es => if test e then some 0 else (findSlot test es).map (· + 1)

/-- The slot of the non-EMPTY entry that holds a sequence number. -/
def slotOf (b : Book) (seq : Nat) : Option Nat := findSlot (fun e => e.tag != .empty && e.seq == seq) b.slots

/-- The entry of a slot. -/
def State.entry (s : State) (k : Nat) : Entry := s.book.slots[k]?.getD Entry.unused

/-- A slot's entry changed. -/
def State.modEntry (s : State) (k : Nat) (f : Entry → Entry) : State :=
  { s with book := { s.book with slots := s.book.slots.set k (f (s.entry k)) } }

/-- An entry's tag changes: PENALTY is posted (R107). -/
def setTag (k : Nat) (t : Tag) (s : State) : State := post .penalty (s.modEntry k fun e => { e with tag := t })

/-- An entry becomes SERVED or WAIVED: its close time takes the race clock, its outcome flags are given, and it joins the
closing order (R107). -/
def closeEntry (k : Nat) (t : Tag) (o : Outcomes) (s : State) : State :=
  let u := s.modEntry k fun e => { e with tag := t, closeTime := some s.heat.raceClock, outcomes := o }
  post .penalty { u with book := { u.book with closed := u.book.closed ++ [k] } }

end Sys2Proof.Machine
end

