-- ==== Sys2Proof/Machine/Server.lean ====
section
/-! DEFINITION. The Penalty Server (chapter 7): the waiting lists, the start of serving, the cap's laps, and the closing of a
lane's channels. -/

namespace Sys2Proof.Machine

/-- The CUT claim: the lane's stop channel has a serving entry (R142). -/
def cutClaim (s : State) (l : Lane) : Bool := (s.channels.get l).stop.serving.isSome

/-- The CAPPED claim: the lane's cap channel has a serving entry (R142). -/
def cappedClaim (s : State) (l : Lane) : Bool := (s.channels.get l).cap.serving.isSome

/-- Place of a new waiting entry: by activation time, then by sequence number (R130). `activation` gives the activation time
of an entry already waiting. -/
def insertWaiting (activation : Nat → Nat) (time seq : Nat) : List Nat → List Nat
  | [] => [seq]
  | q :: qs =>
    if time < activation q ∨ (time = activation q ∧ seq < q) then seq :: q :: qs
    else q :: insertWaiting activation time seq qs

/-- The activation time of the entry with a sequence number. -/
def activationOf (s : State) (seq : Nat) : Nat :=
  match slotOf s.book seq with
  | none => 0
  | some k => (s.entry k).activationTime.getD 0

/-- An ACTIVE STOP_GO is handed to its lane's stop channel (R116, R130). -/
def waitForStop (l : Lane) (seq : Nat) (s : State) : State :=
  s.modChannels l fun c => { c with stop := { c.stop with
    waiting := insertWaiting (activationOf s) (activationOf s seq) seq c.stop.waiting } }

/-- An ACTIVE POWER_CAP is handed to its lane's cap channel (R116, R130). -/
def waitForCap (l : Lane) (seq : Nat) (s : State) : State :=
  s.modChannels l fun c => { c with cap := { c.cap with
    waiting := insertWaiting (activationOf s) (activationOf s seq) seq c.cap.waiting } }

/-- A sequence number leaves a channel's waiting entries, and its serving entry if it names it (R121, R130, R138). -/
def Channel.drop (seq : Nat) (c : Channel) : Channel :=
  { waiting := c.waiting.filter (· != seq), serving := if c.serving = some seq then none else c.serving }

/-- A sequence number leaves both channels of a lane. -/
def leaveChannels (l : Lane) (seq : Nat) (s : State) : State :=
  s.modChannels l fun c => { stop := c.stop.drop seq, cap := c.cap.drop seq }

/-! ### Closing a lane's channels (R139 to R141) -/

/-- A waiting STOP_GO of a lane whose racing has stopped: SERVED with CONVERTED, TP raised by its full amount (R139). -/
def convertWaiting (l : Lane) (s : State) (seq : Nat) : State :=
  match slotOf s.book seq with
  | none => s
  | some k =>
    let e := s.entry k
    addPenaltyTime l (e.amount * Config.ticksPerSecond)
      (closeEntry k .served { e.outcomes with converted := true } s)

/-- An entry that closes without effect on TP: SERVED with one more outcome flag. -/
def closeUnserved (mark : Outcomes → Outcomes) (s : State) (seq : Nat) : State :=
  match slotOf s.book seq with
  | none => s
  | some k => closeEntry k .served (mark (s.entry k).outcomes) s

/-- A lane's channels are closed: the serving STOP_GO is TRUNCATED, each waiting one CONVERTED, every POWER_CAP UNSERVED, in
the order of R141; both channels are then empty. The flag says whether TP was raised. -/
def closeChannels (l : Lane) (s : State) : State × Bool :=
  let c := s.channels.get l
  let s1 := c.stop.serving.toList.foldl (closeUnserved fun o => { o with truncated := true }) s
  let s2 := c.stop.waiting.foldl (convertWaiting l) s1
  let s3 := c.cap.serving.toList.foldl (closeUnserved fun o => { o with unserved := true }) s2
  let s4 := c.cap.waiting.foldl (closeUnserved fun o => { o with unserved := true }) s3
  (s4.modChannels l fun _ => Channels.empty, !c.stop.waiting.isEmpty)

/-! ### A valid line crossing (R132, R133, R136) -/

/-- The crossing counts against the serving cap; at 0 the entry is SERVED and the claim cleared (R136). -/
def countCapLap (l : Lane) (s : State) : State :=
  match (s.channels.get l).cap.serving with
  | none => s
  | some seq =>
    match slotOf s.book seq with
    | none => s
    | some k =>
      let left := (s.entry k).progress.getD 0 - 1
      let t := s.modEntry k fun e => { e with progress := some left }
      if left = 0 then
        (closeEntry k .served (s.entry k).outcomes t).modChannels l fun c => { c with cap := { c.cap with serving := none } }
      else t

/-- The head of a waiting list, if a crossing captured at `c` is eligible for it: captured not earlier than the entry's
activation time (R132). -/
def eligibleHead (s : State) (c : Nat) (ch : Channel) : Option (Nat × Nat) :=
  match ch.waiting with
  | [] => none
  | seq :: _ =>
    match slotOf s.book seq with
    | none => none
    | some k => if (s.entry k).activationTime.getD 0 ≤ c then some (seq, k) else none

/-- A channel after its head has started serving (R132). -/
def Channel.startHead (ch : Channel) (seq : Nat) : Channel := { waiting := ch.waiting.drop 1, serving := some seq }

/-- The stop channel starts its head entry where the crossing is eligible; the flag says whether it did (R132). -/
def startStop (l : Lane) (c : Nat) (s : State) : State × Bool :=
  match eligibleHead s c (s.channels.get l).stop with
  | none => (s, false)
  | some (seq, k) =>
    ((setTag k .serving s).modChannels l fun ch => { ch with stop := ch.stop.startHead seq }, true)

/-- The cap channel starts its head entry where the crossing is eligible (R132). -/
def startCap (l : Lane) (c : Nat) (s : State) : State :=
  match eligibleHead s c (s.channels.get l).cap with
  | none => s
  | some (seq, k) => (setTag k .serving s).modChannels l fun ch => { ch with cap := ch.cap.startHead seq }

/-- The server takes a valid line crossing of a lane captured at `c`: first the cap's count, then the starts of the channels
that served nothing when the crossing was handed over. Nothing happens for a lane that is not GRID or RUNNING. The flag says
whether a STOP_GO began serving (R133). -/
def serverCrossing (l : Lane) (c : Nat) (s : State) : State × Bool :=
  match (s.lane l).status with
  | .grid | .running =>
    let stopBusy := cutClaim s l
    let capBusy := cappedClaim s l
    let s1 := countCapLap l s
    let (s2, started) := if stopBusy then (s1, false) else startStop l c s1
    (if capBusy then s2 else startCap l c s2, started)
  | .out | .finished | .stoodDown => (s, false)

end Sys2Proof.Machine
end

