-- ==== Sys2Proof/Machine/Outputs.lean ====
section
/-! DEFINITION. What follows the other state within every event: the power state of each lane and its outputs (sections 8.1
and 8.2), the lane lamps (section 7.8), and the marks of expired stuck watches (R7). -/

namespace Sys2Proof.Machine

/-! ### Power state (R145) -/

/-- A lane's power state: the highest of section 8.1 whose condition holds (R145). -/
def powerState (s : State) (l : Lane) : PowerState :=
  if (s.power.get l).tripped then .tripped
  else if !s.phase.racing then .off
  else
    match (s.lane l).status with
    | .out | .finished | .stoodDown => .off
    | .grid | .running =>
      match s.phase with
      | .hold | .resuming => .held
      | _ => if cutClaim s l then .cut else if cappedClaim s l then .capped else .full

/-- The power state lets the drive be on: FULL or CAPPED (section 8.1). -/
def PowerState.drives : PowerState → Bool
  | .capped | .full => true
  | .tripped | .off | .held | .cut => false

/-- The power state calls for the brake: HELD or CUT (section 8.1). -/
def PowerState.brakes : PowerState → Bool
  | .held | .cut => true
  | .tripped | .off | .capped | .full => false

/-- The dead time in steps of the output timer (R148). -/
def deadSteps (st : Staging) : Nat := st.deadTime * Config.stepsPerMicrosecond

/-- The PWM period in steps (section 8.2). -/
def PwmFrequency.period : PwmFrequency → Nat
  | .khz4 => 2000 | .khz8 => 1000 | .khz16 => 500

/-- The drive stays on within an event only where it is on and the state lets it: FULL, or CAPPED ever since the
period start that fixed the on-time (R148, R149). -/
def driveStays (ps : PowerState) (p : PowerLane) : Bool :=
  p.drive && (ps == .full || (ps == .capped && p.pulsing))

/-- A lane's outputs move toward its power state within an event: drive off, then brake off, then brake on where the drive
has been off for the dead time (R148). The PWM phase stays until the next period start (R147). The overcurrent run returns to
0 where the drive is off by the state (R151). -/
def moveOutputs (ps : PowerState) (dead : Nat) (p : PowerLane) : PowerLane :=
  let drive := driveStays ps p
  let driveOff := if p.drive then 0 else p.driveOff
  let brake := ps.brakes && (p.brake || (!drive && decide (dead ≤ driveOff)))
  { p with
    drive := drive
    driveOff := driveOff
    brake := brake && !drive
    brakeOff := if p.brake || brake then 0 else p.brakeOff
    pulsing := p.pulsing && ps == .capped
    overcurrentRun := if ps.drives then p.overcurrentRun else 0 }

/-- A lane at a period start: the drive turns on where the state calls for it and the brake has been off for the dead time;
a capped lane's on-time is fixed where it does (R147 to R149). The PWM phase of a FULL lane whose drive is on is absent: R149
fixes an on-time in CAPPED alone, and R147 says absent only where the drive did not turn on (DESIGN CHOICE, log entry 40). A
retry watch that is armed starts when the drive turns on (R154). -/
def startPeriod (ps : PowerState) (dead onTime : Nat) (p : PowerLane) : PowerLane :=
  let on := ps.drives && (p.drive || (!p.brake && decide (dead ≤ p.brakeOff)))
  { p with
    drive := on
    driveOff := if on || p.drive then 0 else p.driveOff
    brake := p.brake && !on
    onTime := if on && ps == .capped then some onTime else none
    pulsing := on && ps == .capped
    watchStarted := p.watchStarted || (on && !p.drive && p.retryWatch.isSome) }

/-! ### Lane lamps (R143, R144) -/

/-- The condition a lane's lamp shows: the first of R143 that holds. -/
def lampCondition (s : State) (l : Lane) : LampCondition :=
  match s.phase with
  | .idle | .ended => .off
  | _ =>
    let c := s.channels.get l
    if (s.power.get l).tripped then .flash4
    else if c.stop.serving.isSome then .flash2
    else if c.cap.serving.isSome then .flash1
    else if c.stop.waiting.isEmpty && c.cap.waiting.isEmpty then .off
    else .steady

/-- Half the period of a flashing lamp, in ms (R144). -/
def LampCondition.halfPeriod : LampCondition → Option Nat
  | .flash1 => some 500
  | .flash2 => some 250
  | .flash4 => some 125
  | .off | .steady => none

/-- A lamp within an event: a new condition starts lit, or is dark when off, and its period is counted from now; a lamp
whose condition stays the same keeps its rhythm (R144). -/
def moveLamp (now : StationTime) (c : LampCondition) (x : Lamp) : Lamp :=
  if x.condition = c then x else ⟨c, c != .off, now⟩

/-! ### Stuck watches (R7) -/

/-- The conditions of a detector's stuck watch hold (R7). -/
def watchRuns (s : State) (l : Lane) (d : Detector) : Bool :=
  d.state == .inService && d.broken && (s.phase == .green || s.phase == .finishing) && (s.lane l).status == .running

/-- An expired watch may run again once its conditions have stopped holding (R7). -/
def moveWatch (s : State) (l : Lane) (d : Detector) : Detector :=
  { d with watchExpired := d.watchExpired && watchRuns s l d }

/-- The outputs, lamps and watch marks follow the rest of the state within the event (R143, R146, R7). -/
def settle (s : State) : State :=
  { s with
    power := s.power.mapLane fun l p => moveOutputs (powerState s l) (deadSteps s.staging) p
    lamps := s.lamps.mapLane fun l x => moveLamp s.now (lampCondition s l) x
    detectors :=
      { line := s.detectors.line.mapLane fun l d => moveWatch s l d
        sector := s.detectors.sector.mapLane fun l d => moveWatch s l d } }

end Sys2Proof.Machine
end

