-- ==== Sys2Proof/Machine/HeatEnd.lean ====
section
/-! DEFINITION. Phase changes of the Heat Controller (chapter 3): the entries into GREEN and FINISHING, the entry into ENDED
(R62), the leader finish (R57), and the end of a heat with no lane RUNNING (R58). -/

namespace Sys2Proof.Machine

/-- All five red lamps lit (R53). -/
def RedLamps.lit : RedLamps := ⟨true, true, true, true, true⟩

/-- Red lamps 1 to `k` lit (R47). -/
def RedLamps.firstLit (k : Nat) : RedLamps :=
  ⟨decide (1 ≤ k), decide (2 ≤ k), decide (3 ≤ k), decide (4 ≤ k), decide (5 ≤ k)⟩

/-- Red lamps 1 to `k` out, the others lit (R54). -/
def RedLamps.firstOut (k : Nat) : RedLamps :=
  ⟨decide (k < 1), decide (k < 2), decide (k < 3), decide (k < 4), decide (k < 5)⟩

/-- How many red lamps are out, counted from lamp 1 (R54). -/
def RedLamps.outCount (r : RedLamps) : Nat :=
  if r.r1 then 0 else if r.r2 then 1 else if r.r3 then 2 else if r.r4 then 3 else if r.r5 then 4 else 5

/-- A phase change of the heat: PHASE is posted to every port. -/
def toPhase (ph : Phase) (s : State) : State := post .phase (s.modHeat fun h => { h with phase := ph })

/-- An entry into GREEN or FINISHING: red lamps out, green lamp lit (steady in GREEN, flashing from lit in FINISHING), stuck
watches started afresh; the finishing start is set at the heat's first entry into FINISHING (R48, R54, R56, R57, R63, R7). -/
def enterRacing (t : ResumeTarget) (s : State) : State :=
  let now := s.now
  let u := s.modHeat fun h =>
    { h with
      red := RedLamps.out
      greenLit := true
      greenToggled := now
      racingSince := some now
      finishingStart := if t = .finishing then some (h.finishingStart.getD now) else h.finishingStart }
  toPhase (match t with | .green => .green | .finishing => .finishing) u

/-- One lane's part of an entry into ENDED: its channels are closed, its fraction becomes present in a settled freeze heat,
and it is rescored where an input of its key changed (R62, R94, R104, R140). `touched` holds the lanes whose key the same
event has already changed. -/
def endLane (fractions : Bool) (touched : List Lane) (s : State) (l : Lane) : State :=
  let (s1, converted) := closeChannels l s
  let settles := fractions && (s1.lane l).status != .out
  let s2 :=
    if settles then
      s1.modLane l fun r => { r with fraction := some (fractionOf s1.staging (s1.heat.expiryTime.getD 0) r) }
    else s1
  if settles || converted || touched.contains l then rescore l s2 else s2

/-- The heat fields of an entry into ENDED: the race clock stops with the phase, resume target and resume start become
absent, expired becomes no, all start lamps go out (R62). -/
def Heat.ended (e : Ending) (h : Heat) : Heat :=
  { h with
    phase := .ended
    ending := some e
    resumeTarget := none
    resumeStart := none
    expired := false
    red := RedLamps.out
    greenLit := false }

/-- The entry into ENDED (R62): phase and lamps, every lane's channels closed, the fractions of a settled freeze heat, one
reorder. PHASE is posted, and LAP with the fractions (R84). The gates follow in `settle` (R150). -/
def enterEnded (e : Ending) (fractions : Bool) (touched : List Lane) (s : State) : State :=
  let s1 := post .phase (s.modHeat (Heat.ended e))
  let s2 := Lane.all.foldl (endLane fractions touched) s1
  reorder (if fractions then post .lap s2 else s2)

/-- Some lane is RUNNING. -/
def anyRunning (s : State) : Bool := s.lanes.any fun r => r.status == .running

/-- The heat must end now because no lane is left RUNNING (R58). -/
def noLaneLeft (s : State) : Bool := s.phase.racing && !anyRunning s

/-- The end of a heat with no lane RUNNING: ALL_FINISHED, with the fractions in a TIMED_FREEZE heat (R58). -/
def endAllFinished (touched : List Lane) (s : State) : State :=
  enterEnded .allFinished (s.staging.heatMode == .timedFreeze) touched s

/-- The close of an event that changed lane `l`'s record: where the lane has left RUNNING and none is left, the heat ends;
otherwise the lane is rescored and the list reordered once (R66, R79, R81, R104). -/
def finishLaneChange (l : Lane) (leftRunning : Bool) (s : State) : State :=
  if leftRunning && noLaneLeft s then endAllFinished [l] s else reorder (rescore l s)

/-- The leader finish of a LAP_TARGET heat at capture time `c` (R57). -/
def leaderFinish (c : Nat) (s : State) : State :=
  let t := s.modHeat fun h => { h with finishReference := some c }
  match s.phase with
  | .green => enterRacing .finishing t
  | .hold | .resuming => t.modHeat fun h => { h with resumeTarget := some .finishing }
  | .idle | .staged | .countdown | .finishing | .settling | .ended => t

/-- A lane is stood down (R67): status, its channels closed, and the heat ended where it was the last RUNNING lane. Its dead-heat
mark is cleared by the reorder that follows every standown, which posts ORDER where a mark changes (R82 to R84; DEDUCED,
log entry 35). -/
def standDown (l : Lane) (s : State) : State :=
  let wasRunning := (s.lane l).status == .running
  let s1 := s.modLane l fun r => { r with status := .stoodDown }
  finishLaneChange l wasRunning (closeChannels l s1).1

end Sys2Proof.Machine
end

