-- ==== Sys2Proof/Machine/LapStore.lean ====
section
/-! DEFINITION. The Lap Store's recording of laps and finishes (sections 4.3 to 4.5). -/

namespace Sys2Proof.Machine

/-! ### The history (R74 to R76) -/

/-- The newest 32 entries of a history (R74). -/
def newest (h : List Lap) : List Lap := h.drop (h.length - Config.historyDepth)

/-- BEST leaves the entry that carried it (R71). -/
def clearBest (h : List Lap) : List Lap := h.map fun x => { x with flags := { x.flags with best := false } }

/-- An entry is renumbered up by one where its number is `k` or more (R76). -/
def Lap.renumber (k : Nat) (x : Lap) : Lap := if k ≤ x.number then { x with number := x.number + 1 } else x

/-- The highest lap number of a list of entries, 0 for none. -/
def highestNumber (h : List Lap) : Nat := h.foldl (fun m x => max m x.number) 0

/-- The number a credited lap captured at `c` takes (R75). -/
def creditedNumber (r : LaneRecord) (c : Nat) : Nat :=
  let before := r.history.filter fun x => decide (x.closeTime ≤ c)
  if !before.isEmpty then highestNumber before + 1
  else if r.history.any (fun x => x.number == 1) || (r.history.isEmpty && r.laps == 0) then 1
  else r.laps + 1

/-- The entry of a credited lap (R75). -/
def creditedLap (k c : Nat) : Lap := ⟨k, c, none, none, { credited := true, adjudicated := true }⟩

/-- A history with a credited lap put in at number `k`, later entries renumbered, the newest 32 kept (R75, R76). -/
def insertCredited (k c : Nat) (h : List Lap) : List Lap :=
  newest ((h.filter fun x => decide (x.number < k)) ++
    creditedLap k c :: (h.filter fun x => decide (k ≤ x.number)).map (Lap.renumber k))

/-! ### Finishing (R77, R78) -/

/-- A lap captured at `c` that leaves the lane with `laps` counted finishes it (R77, R78). Only a RUNNING lane finishes
(section 4.2; log entry 21). -/
def finishesLane (s : State) (r : LaneRecord) (laps c : Nat) : Bool :=
  r.status == .running &&
    match s.staging.heatMode with
    | .timedFreeze => false
    | .timedRunToLine =>
      match s.heat.finishReference with
      | some t => decide (t ≤ c)
      | none => false
    | .lapTarget =>
      decide ((s.staging.lapTarget : Int) ≤ (laps : Int) - (r.deducted : Int)) ||
        match s.heat.finishReference with
        | some t => decide (t < c)
        | none => false

/-- A finish is the leader finish: a LAP_TARGET heat whose finish reference is absent, not in ENDED (R78). -/
def isLeaderFinish (s : State) : Bool :=
  s.staging.heatMode == .lapTarget && s.heat.finishReference.isNone && s.phase != .ended

/-! ### Timed laps (R69 to R73, R79) -/

/-- A timed lap handed to the Lap Store: its capture time, its flags, the sector split of its entry, and the current sector
split of the lap it opens (R69, R72). -/
structure TimedLap where
  capture : Nat
  flags : LapFlags
  entrySplit : Option Nat
  nextSplit : Option Nat
  deriving DecidableEq, Repr

/-- L is at the top of its range (R73). -/
def LaneRecord.lapsFull (r : LaneRecord) : Bool := decide (Config.top16 ≤ r.laps)

/-- L after a lap (R73). -/
def LaneRecord.lapsNext (r : LaneRecord) : Nat := min Config.top16 (r.laps + 1)

/-- The lap becomes the lane's best (R71). -/
def becomesBest (r : LaneRecord) (x : TimedLap) : Bool :=
  x.flags.eligible &&
    match r.bestLap with
    | none => true
    | some b => decide (x.capture - r.lastCrossing < b)

/-- The lane record with a timed lap recorded, `finishes` saying that the lap finishes the lane: history, L, statistics,
best, last crossing and last lap (R69 to R73, R79). -/
def LaneRecord.withTimedLap (st : Staging) (finishes : Bool) (x : TimedLap) (r : LaneRecord) : LaneRecord :=
  let lapTime := x.capture - r.lastCrossing
  let best := becomesBest r x
  let entry : Lap :=
    ⟨r.lapsNext, x.capture, some lapTime, x.entrySplit, { x.flags with best := best, final := finishes }⟩
  let kept := if best then clearBest r.history else r.history
  let count := if x.flags.standing then r.timedCount else r.timedCount + 1
  let sum := if x.flags.standing then r.timedSum else r.timedSum + lapTime
  { r with
    laps := r.lapsNext
    history := if r.lapsFull then kept else newest (kept ++ [entry])
    lastCrossing := x.capture
    lastLap := some lapTime
    split := x.nextSplit
    timedCount := count
    timedSum := sum
    averageLap := averageOf st count sum
    bestLap := if best then some lapTime else r.bestLap
    bestNumber := if best then some r.lapsNext else r.bestNumber
    finishTime := if finishes then some x.capture else r.finishTime
    status := if finishes then .finished else r.status }

/-- The reports of a finish: the leader finish where it is one, then the lane's channels closed as at the heat end (R79). -/
def reportFinish (l : Lane) (c : Nat) (s : State) : State :=
  (closeChannels l (if isLeaderFinish s then leaderFinish c s else s)).1

/-- LAP is posted and the lap counted by the LAPS counters (R84). -/
def announceLap (s : State) : State := countEvent .laps (post .lap s)

/-- A timed lap is recorded (R69, R72), the finish tests applied and the order brought up to date. The number handed back is
the lap's, or 0 where it adds no history entry (R73, R35). -/
def recordTimed (l : Lane) (x : TimedLap) (s : State) : State × Nat :=
  let r := s.lane l
  let finishes := finishesLane s r r.lapsNext x.capture
  let s1 := s.modLane l (LaneRecord.withTimedLap s.staging finishes x)
  let s2 := if r.lapsFull then raise .saturation (some l) none .lapsCounted s1 else s1
  let s3 := if finishes then reportFinish l x.capture s2 else s2
  (finishLaneChange l finishes (announceLap s3), if r.lapsFull then 0 else r.lapsNext)

/-! ### Credited laps (R75) -/

/-- The lane record with a credited lap captured at `c` (R75, R76). -/
def LaneRecord.withCreditedLap (c : Nat) (r : LaneRecord) : LaneRecord :=
  let k := creditedNumber r c
  { r with
    laps := r.lapsNext
    history := insertCredited k c r.history
    bestNumber := r.bestNumber.map fun b => if k ≤ b then b + 1 else b }

/-- A credited lap is recorded; at saturated L it adds no entry and renumbers nothing (R73, R75). The number handed back is
the lap's, or 0. -/
def recordCredited (l : Lane) (c : Nat) (s : State) : State × Nat :=
  let r := s.lane l
  if r.lapsFull then
    (finishLaneChange l false (announceLap (raise .saturation (some l) none .lapsCounted s)), 0)
  else
    (finishLaneChange l false (announceLap (s.modLane l (LaneRecord.withCreditedLap c))), creditedNumber r c)

end Sys2Proof.Machine
end

