-- ==== Sys2Proof/Machine/Operands.lean ====
section
/-! DEFINITION. Reading the fields of a request frame: lane numbers, named codes, sets and the clamps of written values (R41,
R108, R194, R196). -/

namespace Sys2Proof.Machine

/-- The lane of a number, or none outside 1 to 8 (R196: refused by the owning block with NO_LANE). -/
def laneOfNumber (n : Nat) : Option Lane :=
  match n with
  | 1 => some .l1 | 2 => some .l2 | 3 => some .l3 | 4 => some .l4
  | 5 => some .l5 | 6 => some .l6 | 7 => some .l7 | 8 => some .l8
  | _ => none

/-- The lane a selector names. -/
def laneOf (b : Byte) : Option Lane := laneOfNumber b.toNat

/-- The penalty kind of a code (section 6.2 in order, R194, R196). -/
def kindOfCode (n : Nat) : Option Kind :=
  match n with
  | 0 => some .warning | 1 => some .stopGo | 2 => some .timeAdd
  | 3 => some .lapDeduct | 4 => some .powerCap | 5 => some .standdown
  | _ => none

/-- The detector kind of a parameter: 0 line, 1 sector (R196). -/
def detKindOfCode (n : Nat) : Option DetKind :=
  match n with
  | 0 => some .line | 1 => some .sector
  | _ => none

/-- The counter class of a code (R190, R194). -/
def classOfCode (n : Nat) : Option CounterClass :=
  match n with
  | 0 => some .frameErrors | 1 => some .refusals | 2 => some .laps | 3 => some .suspects | 4 => some .merges
  | _ => none

/-- The RESET PART choice of a parameter: 1 CLEAR, 2 KEEP (R196). -/
def resetChoiceOfCode (n : Nat) : Option ResetChoice :=
  match n with
  | 1 => some .clear | 2 => some .keep
  | _ => none

/-- The window space of a code (R195). -/
def spaceOfCode (n : Nat) : Option Space :=
  match n with
  | 0 => some .lanes
  | 1 => some (.history .l1) | 2 => some (.history .l2) | 3 => some (.history .l3) | 4 => some (.history .l4)
  | 5 => some (.history .l5) | 6 => some (.history .l6) | 7 => some (.history .l7) | 8 => some (.history .l8)
  | 9 => some .book | 10 => some .order | 11 => some .adjudication | 12 => some .detectors
  | 13 => some .exceptions | 14 => some .staging | 15 => some .ports
  | _ => none

/-- The code of a window space (R195). -/
def Space.code : Space → Nat
  | .lanes => 0
  | .history l => l.num
  | .book => 9 | .order => 10 | .adjudication => 11 | .detectors => 12 | .exceptions => 13 | .staging => 14 | .ports => 15

/-- The records of a space (R183). -/
def Space.recordCount : Space → Nat
  | .lanes => 8 | .history _ => 32 | .book => 16 | .order => 1 | .adjudication => 8
  | .detectors => 16 | .exceptions => 6 | .staging => 1 | .ports => 1

/-- The words of each record of a space (R195). -/
def Space.wordCount : Space → Nat
  | .lanes => 54 | .history _ => 13 | .book => 21 | .order => 18 | .adjudication => 10
  | .detectors => 10 | .exceptions => 14 | .staging => 64 | .ports => 16

/-- The window mode of a code; mode 3 names none (R184, R196). -/
def modeOfCode (n : Nat) : Option Mode :=
  match n with
  | 0 => some .steady | 1 => some .step | 2 => some .stepOnWrite
  | _ => none

/-- The fields of a POINT frame (R196): space code in bits 0 to 3 of the selector, mode in bits 4 and 5, by sequence number
in bit 6, no space in bit 7; record index in the high byte of the parameter and word index in the low byte. -/
structure PointFields where
  spaceCode : Nat
  modeCode : Nat
  bySequence : Bool
  noSpace : Bool
  record : Nat
  word : Nat
  seq : Nat
  deriving DecidableEq, Repr

/-- The fields of a POINT frame. -/
def pointFields (selector : Byte) (parameter : Word) : PointFields where
  spaceCode := selector.toNat % 16
  modeCode := selector.toNat / 16 % 4
  bySequence := selector.getLsbD 6
  noSpace := selector.getLsbD 7
  record := parameter.toNat / 256
  word := parameter.toNat % 256
  seq := parameter.toNat

/-- The parameter of a frame, high byte first (section 10.2). -/
def frameParameter (f : Frame) : Word := f.paramHigh ++ f.paramLow

/-! ### Clamps -/

/-- A value outside a range is replaced by the nearer limit (section 5.3 of the scope). -/
def clamp (low high n : Nat) : Nat := min high (max low n)

/-- The amount of a call of the kind, clamped to the kind's range (R108). -/
def clampAmount (k : Kind) (n : Nat) : Nat :=
  match k with
  | .warning => 0
  | .stopGo => clamp 1 60 n
  | .timeAdd => clamp 1 255 n
  | .lapDeduct => clamp 1 9 n
  | .powerCap => clamp 1 20 n
  | .standdown => 0

/-- The penalty kind of a jump penalty kind (R40). -/
def JumpKind.kind : JumpKind → Kind
  | .warning => .warning | .stopGo => .stopGo | .timeAdd => .timeAdd

/-- A written code of heat mode; a code above the highest stores the highest (R41). The enumerations below likewise. -/
def heatModeOfCode (n : Nat) : HeatMode :=
  match n with
  | 0 => .timedFreeze | 1 => .timedRunToLine | _ => .lapTarget

/-- A written code of sector use (R41). -/
def sectorUseOfCode (n : Nat) : SectorUse :=
  match n with
  | 0 => .off | 1 => .splits | _ => .confirm

/-- A written code of reported resolution (R41). -/
def resolutionOfCode (n : Nat) : Resolution :=
  match n with
  | 0 => .us10 | 1 => .us100 | 2 => .ms1 | _ => .ms10

/-- A written code of rounding mode (R41). -/
def roundingOfCode (n : Nat) : Rounding :=
  match n with
  | 0 => .nearestEven | 1 => .down | _ => .up

/-- A written code of clock under call (R41). -/
def clockPolicyOfCode (n : Nat) : ClockPolicy :=
  match n with
  | 0 => .hold | _ => .run

/-- A written code of jump penalty kind (R41). -/
def jumpKindOfCode (n : Nat) : JumpKind :=
  match n with
  | 0 => .warning | 1 => .stopGo | _ => .timeAdd

/-- A written code of PWM frequency (R41). -/
def pwmFrequencyOfCode (n : Nat) : PwmFrequency :=
  match n with
  | 0 => .khz4 | 1 => .khz8 | _ => .khz16

/-- A written code of a detector edge (R41). -/
def edgeOfCode (n : Nat) : DetectorEdge :=
  match n with
  | 0 => .leading | _ => .trailing

/-- A written on/off field: 0 is off, and every code above the highest is clamped to it (R41, R194). -/
def onOffOfCode (n : Nat) : Bool := n != 0

/-- The escalation threshold takes 0 or 2 to 15: a written 1 is stored as 2 (R41). -/
def clampThreshold (n : Nat) : Nat := if n = 0 then 0 else clamp 2 15 n

/-- The set of lanes a word names: bit 0 is lane 1 (R194). -/
def laneSetOfWord (w : Word) : Lanes Bool :=
  ⟨w.getLsbD 0, w.getLsbD 1, w.getLsbD 2, w.getLsbD 3, w.getLsbD 4, w.getLsbD 5, w.getLsbD 6, w.getLsbD 7⟩

/-- The set word of a set of lanes (R194). -/
def laneSetWord (x : Lanes Bool) : Word := setWord [x.l1, x.l2, x.l3, x.l4, x.l5, x.l6, x.l7, x.l8]

/-! ### Codes of named values (R194: the position in the list where the field is first specified) -/

/-- Code of a phase. -/
def Phase.code : Phase → Nat
  | .idle => 0 | .staged => 1 | .countdown => 2 | .green => 3 | .hold => 4 | .resuming => 5 | .finishing => 6
  | .settling => 7 | .ended => 8

/-- Code of a heat mode. -/
def HeatMode.code : HeatMode → Nat
  | .timedFreeze => 0 | .timedRunToLine => 1 | .lapTarget => 2

/-- Code of a sector use. -/
def SectorUse.code : SectorUse → Nat
  | .off => 0 | .splits => 1 | .confirm => 2

/-- Code of a reported resolution. -/
def Resolution.code : Resolution → Nat
  | .us10 => 0 | .us100 => 1 | .ms1 => 2 | .ms10 => 3

/-- Code of a rounding mode. -/
def Rounding.code : Rounding → Nat
  | .nearestEven => 0 | .down => 1 | .up => 2

/-- Code of a clock-under-call policy. -/
def ClockPolicy.code : ClockPolicy → Nat
  | .hold => 0 | .run => 1

/-- Code of a jump penalty kind. -/
def JumpKind.code : JumpKind → Nat
  | .warning => 0 | .stopGo => 1 | .timeAdd => 2

/-- Code of a PWM frequency. -/
def PwmFrequency.code : PwmFrequency → Nat
  | .khz4 => 0 | .khz8 => 1 | .khz16 => 2

/-- Code of a detector edge. -/
def DetectorEdge.code : DetectorEdge → Nat
  | .leading => 0 | .trailing => 1

/-- Code of a resume target. -/
def ResumeTarget.code : ResumeTarget → Nat
  | .green => 0 | .finishing => 1

/-- Code of an ending. -/
def Ending.code : Ending → Nat
  | .settled => 0 | .allFinished => 1 | .grace => 2 | .aborted => 3 | .cappedClock => 4

/-- Code of a track-call origin: the port, or 4 for SUPPLY (R195). -/
def CallOrigin.code : CallOrigin → Nat
  | .port p => p.num
  | .supply => 4

/-- Code of a detector state. -/
def DetState.code : DetState → Nat
  | .disabled => 0 | .inService => 1 | .faulted => 2 | .out => 3

/-- Code of a fault reason. -/
def FaultReason.code : FaultReason → Nat
  | .stuck => 0 | .erratic => 1

/-- Code of a detector kind: line 0, sector 1 (R195). -/
def detKindCode : DetKind → Nat
  | .line => 0 | .sector => 1

/-- Code of a suspect reason. -/
def SuspectReason.code : SuspectReason → Nat
  | .tooSoon => 0 | .noSector => 1

/-- Code of a lane status. -/
def LaneStatus.code : LaneStatus → Nat
  | .out => 0 | .grid => 1 | .running => 2 | .finished => 3 | .stoodDown => 4

/-- Code of a penalty kind. -/
def Kind.code : Kind → Nat
  | .warning => 0 | .stopGo => 1 | .timeAdd => 2 | .lapDeduct => 3 | .powerCap => 4 | .standdown => 5

/-- Code of a tag. -/
def Tag.code : Tag → Nat
  | .empty => 0 | .called => 1 | .active => 2 | .serving => 3 | .served => 4 | .waived => 5

/-- Code of an origin, for the low byte of its word (R195). -/
def Origin.code : Origin → Nat
  | .control => 0
  | .marshal _ => 1
  | .jumpStart => 2
  | .deslotEscalation => 3

/-- The marshal port of an origin, 0 for the others, for the high byte of its word (R195). -/
def Origin.portNumber : Origin → Nat
  | .marshal p => p.num
  | _ => 0

/-- Code of a power state: its position in the table of section 8.1. -/
def PowerState.code : PowerState → Nat
  | .tripped => 0 | .off => 1 | .held => 2 | .cut => 3 | .capped => 4 | .full => 5

/-- Code of a detail: its position in its kind's list of section 9.1 (R195). -/
def Detail.code : Detail → Nat
  | .tooSoon => 0 | .noSector => 1
  | .stuck => 0 | .erratic => 1
  | .trip => 0 | .retryFailed => 1 | .locked => 2
  | .low => 0
  | .refused => 0 | .lost => 1
  | .lapsCounted => 0 | .lapsDeducted => 1 | .timePenalty => 2 | .adjustedTime => 3

/-- Code of a capture record's source (R195). -/
def Source.code : Source → Nat
  | .detector .line => 0
  | .detector .sector => 1
  | .port p => 16 + p.num
  | .jumpStart => 32
  | .deslotEscalation => 33

/-- Code of a role. -/
def Role.code : Role → Nat
  | .control => 0 | .marshal => 1 | .display => 2

/-- Code of a receive state. -/
def Receive.code : Receive → Nat
  | .waiting => 0
  | .receiving _ => 1
  | .answering => 2
  | .discarding => 3

/-- Code of a window mode. -/
def Mode.code : Mode → Nat
  | .steady => 0 | .step => 1 | .stepOnWrite => 2

/-- Code of a counter class. -/
def CounterClass.code : CounterClass → Nat
  | .frameErrors => 0 | .refusals => 1 | .laps => 2 | .suspects => 3 | .merges => 4

/-- The baud code of the straps: 57,600 is 0, 115,200 is 1, 230,400 is 2, 460,800 is 3 (R175, R195). -/
def baudCode (x : Straps) : Nat := x.baud1.toNat + 2 * x.baud2.toNat

/-- A refusal reason's position in the list of R180, counted from 1. -/
def Reason.position : Reason → Nat
  | .frameCheck => 1 | .unknownRequest => 2 | .role => 3 | .wrongPhase => 4 | .noLane => 5 | .noEntry => 6
  | .wrongState => 7 | .bookFull => 8 | .readOnly => 9

/-- The status byte of a response (R196). -/
def Status.byte : Status → Byte
  | .done => 0
  | .merged => 1
  | .already => 2
  | .refused r => BitVec.ofNat 8 (128 + r.position)

/-- The five bytes of a response frame; the check byte makes them sum to 0 modulo 256 (R196). -/
def Response.bytes (r : Response) : List Byte :=
  let high := r.data.extractLsb' 8 8
  let low := r.data.extractLsb' 0 8
  [r.status.byte, r.echo, high, low, 0 - (r.status.byte + r.echo + high + low)]

end Sys2Proof.Machine
end

