-- ==== Sys2Proof/Machine/Adjudication.lean ====
section
/-! DEFINITION. The adjudication queue and the resolutions of suspects (sections 2.5 to 2.8). -/

namespace Sys2Proof.Machine

/-- The lane's cap channel is serving: what the cap mark of a lap that opens now takes (R22, R23, R27). -/
def capMarkNow (s : State) (l : Lane) : Bool := cappedClaim s l

/-- After the lane's last crossing time has moved, its queued entries captured earlier are superseded (R33). -/
def supersede (l : Lane) (s : State) : State :=
  let last := (s.lane l).lastCrossing
  { s with queue := s.queue.map fun x =>
      if x.lane = l ∧ x.capture < last then { x with superseded := true } else x }

/-- An accepted NO_SECTOR suspect becomes a timed lap: not superseded, later than the last crossing, and by no less than the
lockout (R27); a FINISHED lane counts further laps as credited laps alone (R79). -/
def becomesTimed (s : State) (x : Suspect) : Bool :=
  let r := s.lane x.lane
  x.reason == .noSector && r.status != .finished && !x.superseded && decide (r.lastCrossing < x.capture) &&
    decide (lockoutTicks s.staging ≤ x.capture - r.lastCrossing)

/-- The flags of an accepted timed lap (R27). The lap that a stop-go begun under a call opened carries UNDER_CALL here too
(R134): DESIGN CHOICE (log entry 36). -/
def acceptedFlags (c : Context) : LapFlags :=
  { noSector := true, adjudicated := true, capped := c.capMark, penaltyLap := c.stopGoMark, underCall := c.underCallMark }

/-- The sector mark that stays for the new lap: a sector crossing captured later than the suspect (R27). -/
def laterMark (c : Context) (capture : Nat) : Option Nat :=
  c.sectorMark.bind fun m => if capture < m then some m else none

/-- The timed lap of an accepted suspect: its entry takes the current split where it was set before the suspect's capture,
and a later sector crossing belongs to the new lap (R72). -/
def acceptedLap (s : State) (x : Suspect) : TimedLap :=
  let r := s.lane x.lane
  let c := s.contexts.get x.lane
  { capture := x.capture
    flags := acceptedFlags c
    entrySplit := r.split.bind fun t => if t < x.capture - r.lastCrossing then some t else none
    nextSplit := (laterMark c x.capture).map fun m => m - x.capture }

/-- The context of the lap that an accepted timed lap opens (R27). -/
def openAfterAccept (x : Suspect) (s : State) : State :=
  s.modContext x.lane fun c =>
    { referenceSet := true
      sectorMark := laterMark c x.capture
      stopGoMark := false
      capMark := capMarkNow s x.lane
      underCallMark := false }

/-- A suspect resolved as accepted: a timed lap (R27) or a credited lap (R28). The number handed back is the lap's, or 0. -/
def acceptSuspect (x : Suspect) (s : State) : State × Nat :=
  if becomesTimed s x then
    let (t, n) := recordTimed x.lane (acceptedLap s x) s
    (supersede x.lane (openAfterAccept x t), n)
  else recordCredited x.lane x.capture s

/-- A suspect's default resolution: TOO_SOON is rejected and NO_SECTOR accepted; a rejection changes nothing (R26, R29). -/
def resolveByDefault (x : Suspect) (s : State) : State :=
  match x.reason with
  | .tooSoon => s
  | .noSector => (acceptSuspect x s).1

/-- The oldest entry leaves the queue with its default resolution (R34, R37). -/
def resolveOldest (s : State) : State :=
  match s.queue with
  | [] => s
  | x :: rest => resolveByDefault x { s with queue := rest }

/-- The queue is drained: each entry, oldest first, by default, each taking effect before the next (R37). `fuel` is the
number of entries. -/
def drainQueue : Nat → State → State
  | 0, s => s
  | n + 1, s => drainQueue n (resolveOldest s)

/-- The oldest entry's deadline has been reached (R30, R34). -/
def deadlineDue (s : State) : Bool :=
  match s.queue with
  | [] => false
  | x :: _ => decide (s.staging.adjudicationWindow * 1000 ≤ elapsed s.now x.arrival)

/-- The number the next queued entry takes: the first from the counter on that no queued entry holds. R30 leaves open whether
the counter passes over a held number when it advances or when the next suspect arrives; here it does so at the arrival, so a
number freed in between is given out: DESIGN CHOICE (log entry 33). -/
def adjudicationSeq (s : State) : Nat := freeSeq (s.queue.map Suspect.seq) (Config.queueDepth + 1) s.queueSeq

/-- A suspect joins the tail of the queue with its number and arrival time; ADJUDICATION is posted (R31). -/
def enqueueSuspect (x : Suspect) (s : State) : State :=
  let n := adjudicationSeq s
  post .adjudication
    { s with
      queue := s.queue ++ [{ x with seq := n, arrival := s.now, superseded := false }]
      queueSeq := succSeq n }

/-- The detail code of a suspect's reason (section 9.1). -/
def SuspectReason.detail : SuspectReason → Detail
  | .tooSoon => .tooSoon
  | .noSector => .noSector

/-- A suspect verdict is carried out: SUSPECT is raised, the SUSPECTS counters count it, and it is settled by default at once
when SUSPECT is masked or the queue is full, or queued (R25, R31, R32). -/
def takeSuspect (l : Lane) (k : DetKind) (capture : Nat) (reason : SuspectReason) (s : State) : State :=
  let x : Suspect := ⟨0, l, k, capture, reason, s.now, false⟩
  let t := countEvent .suspects (raise .suspect (some l) (some (.detector k)) reason.detail s)
  if masked .suspect s || decide (Config.queueDepth ≤ t.queue.length) then resolveByDefault x t
  else enqueueSuspect x t

/-- The queued entry with a sequence number. -/
def queuedEntry (s : State) (seq : Nat) : Option Suspect := s.queue.find? fun x => x.seq == seq

/-- The queue without the entry of a sequence number, the entries behind closing up (R30). -/
def withoutEntry (s : State) (seq : Nat) : State := { s with queue := s.queue.filter fun x => x.seq != seq }

/-- ACCEPT of a sequence number (R35). -/
def requestAccept (seq : Word) (s : State) : State × Reply :=
  match queuedEntry s seq.toNat with
  | none => refuse .noEntry s
  | some x =>
    let (t, n) := acceptSuspect x (withoutEntry s seq.toNat)
    done n (settle t)

/-- REJECT of a sequence number (R35). -/
def requestReject (seq : Word) (s : State) : State × Reply :=
  match queuedEntry s seq.toNat with
  | none => refuse .noEntry s
  | some _ => done seq.toNat (withoutEntry s seq.toNat)

end Sys2Proof.Machine
end

