-- ==== Sys2Proof/Machine/Power.lean ====
section
/-! DEFINITION. The Lane Power Stage (chapter 8): the PWM train, on-time and dead time, overcurrent trips, retries and LANE
RESTORE. -/

namespace Sys2Proof.Machine

/-! ### The PWM train (R147 to R149) -/

/-- The on-time of a capped lane for a period: period × cap duty ÷ 100, the residue discarded (R149). -/
def onTimeOf (st : Staging) : Nat := st.pwmFrequency.period * st.capDuty / 100

/-- A PWM period start: the next start is one period of the frequency in force away, and each lane's drive turns on where
its state lets it (R147 to R149). -/
def periodStart (s : State) : State :=
  { s with
    clock := { s.clock with pwmElapsed := 0, pwmLeft := s.staging.pwmFrequency.period }
    power := s.power.mapLane fun l p => startPeriod (powerState s l) (deadSteps s.staging) (onTimeOf s.staging) p }

/-- A period start is due (R147). -/
def periodDue (s : State) : Bool := s.clock.pwmLeft == 0

/-- A capped lane's on-time has run (R149). -/
def onTimeDue (s : State) (l : Lane) : Bool :=
  let p := s.power.get l
  p.drive && powerState s l == .capped &&
    match p.onTime with
    | some t => decide (t ≤ s.clock.pwmElapsed)
    | none => false

/-- The drive of a capped lane goes off for the rest of the period (R149). -/
def endOnTime (l : Lane) (s : State) : State := s.modPower l fun p => { p with drive := false, driveOff := 0 }

/-- A lane whose state calls for the brake has had its drive off for the dead time (R148). -/
def deadTimeDue (s : State) (l : Lane) : Bool :=
  let p := s.power.get l
  (powerState s l).brakes && !p.drive && !p.brake && decide (deadSteps s.staging ≤ p.driveOff)

/-- The brake turns on (R148). -/
def brakeOn (l : Lane) (s : State) : State := s.modPower l fun p => { p with brake := true, brakeOff := 0 }

/-! ### Trips (R151, R152) -/

/-- The retry watch is running (R154). -/
def PowerLane.watchRunning (p : PowerLane) : Bool := p.retryWatch.isSome && p.watchStarted

/-- The classification of a trip (R152): its detail code, the retry count after it, and whether the lane is LOCKED. -/
def classifyTrip (maskSet : Bool) (p : PowerLane) : Detail × Nat × Bool :=
  if maskSet && p.watchRunning then
    if p.retryCount < 2 then (.retryFailed, p.retryCount + 1, false) else (.locked, 3, true)
  else (.trip, p.retryCount, p.locked)

/-- Station time a retry delay that starts now ends at (R153). -/
def retryEnd (s : State) : StationTime := s.now + BitVec.ofNat 32 s.staging.retryDelay

/-- A trip of a lane: TRIPPED, drive and brake off, the watch ended, the run zeroed, the trip classified; a masked trip that
is not LOCKED starts the retry delay (R152, R153). OVERCURRENT is raised. -/
def trip (l : Lane) (s : State) : State :=
  let m := masked .overcurrent s
  let (detail, count, locked) := classifyTrip m (s.power.get l)
  let t := s.modPower l fun p =>
    { p with
      tripped := true
      locked := locked
      retryCount := count
      retryDelayEnd := if m && !locked then some (retryEnd s) else none
      retryWatch := none
      watchStarted := false
      driveOnRun := 0
      overcurrent := true
      overcurrentRun := 0 }
  raise .overcurrent (some l) none detail t

/-- The retry delay of a lane has run: station time less its start reaches the delay (R153). -/
def retryDelayDue (s : State) (l : Lane) : Bool :=
  let p := s.power.get l
  p.tripped &&
    match p.retryDelayEnd with
    | some e => decide (s.staging.retryDelay ≤ elapsed s.now (e - BitVec.ofNat 32 s.staging.retryDelay))
    | none => false

/-- The trip clears at the end of the retry delay and the retry watch is armed (R153). -/
def endRetryDelay (l : Lane) (s : State) : State :=
  s.modPower l fun p =>
    { p with tripped := false, retryDelayEnd := none, retryWatch := some Config.retryWatchMs, watchStarted := false }

/-- The running retry watch has counted down to 0 (R154). -/
def retryWatchDue (s : State) (l : Lane) : Bool :=
  (s.power.get l).watchStarted && (s.power.get l).retryWatch == some 0

/-- The retry is taken as good: the watch becomes absent (R154). -/
def endRetryWatch (l : Lane) (s : State) : State := s.modPower l fun p => { p with retryWatch := none, watchStarted := false }

/-- The drive-on run has reached 5,000 ms with retries still counted (R155). -/
def cleanRunDue (s : State) (l : Lane) : Bool :=
  decide (Config.cleanRunMs ≤ (s.power.get l).driveOnRun) && decide (0 < (s.power.get l).retryCount)

/-- The retry count becomes 0 (R155). -/
def endCleanRun (l : Lane) (s : State) : State := s.modPower l fun p => { p with retryCount := 0 }

/-- A lane's trip context cleared (R158, R162). -/
def PowerLane.clearTrip (p : PowerLane) : PowerLane :=
  { p with
    tripped := false
    locked := false
    retryCount := 0
    retryDelayEnd := none
    retryWatch := none
    watchStarted := false
    driveOnRun := 0
    overcurrent := false
    overcurrentRun := 0 }

/-- LANE RESTORE of a lane number (R157): its data is the lane's power state after the request. -/
def requestLaneRestore (lane : Byte) (s : State) : State × Reply :=
  match laneOf lane with
  | none => refuse .noLane s
  | some l =>
    if (s.power.get l).tripped then
      let t := settle (s.modPower l fun p =>
        { p with
          tripped := false
          locked := false
          retryCount := 0
          driveOnRun := 0
          retryDelayEnd := none
          retryWatch := none
          watchStarted := false })
      done (powerState t l).code t
    else refuse .wrongState s

/-! ### The OVERCURRENT mask (R156) -/

/-- Setting the mask starts a retry delay on a lane that is TRIPPED, not LOCKED and has none running (R156). -/
def maskOvercurrent (e : StationTime) (p : PowerLane) : PowerLane :=
  if p.tripped && !p.locked && p.retryDelayEnd.isNone then { p with retryDelayEnd := some e } else p

/-- Clearing the mask abandons a retry delay and ends a retry watch; LOCKED lanes are not touched (R156). -/
def unmaskOvercurrent (p : PowerLane) : PowerLane :=
  if p.locked then p else { p with retryDelayEnd := none, retryWatch := none, watchStarted := false }

end Sys2Proof.Machine
end

