-- ==== Sys2Proof/Machine/ExceptionRequests.lean ====
section
/-! DEFINITION. SET EXCEPTION MASK and CLEAR EXCEPTIONS (section 9.3). -/

namespace Sys2Proof.Machine

/-- The six masks written from a set word: a kind named is masked, one not named is unmasked (R168). -/
def Exceptions.withMasks (w : Word) (x : Exceptions) : Exceptions where
  suspect := { x.suspect with mask := w.getLsbD 0 }
  detector := { x.detector with mask := w.getLsbD 1 }
  overcurrent := { x.overcurrent with mask := w.getLsbD 2 }
  supply := { x.supply with mask := w.getLsbD 3 }
  book := { x.book with mask := w.getLsbD 4 }
  saturation := { x.saturation with mask := w.getLsbD 5 }

/-- The work a change of the SUSPECT mask acts on: set, it drains the adjudication queue; cleared, it leaves it (R37,
R169). -/
def suspectMaskChange (before after : Bool) (s : State) : State :=
  if !before && after then settle (drainQueue s.queue.length s) else s

/-- The work a change of the OVERCURRENT mask acts on: the trip context of every lane (R156, R169). -/
def overcurrentMaskChange (before after : Bool) (s : State) : State :=
  if !before && after then { s with power := s.power.mapLane fun _ p => maskOvercurrent (retryEnd s) p }
  else if before && !after then { s with power := s.power.mapLane fun _ p => unmaskOvercurrent p }
  else s

/-- SET EXCEPTION MASK of a set of kinds: the masks are written, and the SUSPECT and OVERCURRENT blocks act on their pending
work (R168, R169). -/
def requestSetExceptionMask (kinds : Word) (s : State) : State × Reply :=
  let s1 := withExceptions (s.exceptions.withMasks kinds) s
  let s2 := suspectMaskChange s.exceptions.suspect.mask (kinds.getLsbD 0) s1
  let s3 := overcurrentMaskChange s.exceptions.overcurrent.mask (kinds.getLsbD 2) s2
  (s3, ⟨.done, s3.exceptions.flagWord⟩)

/-- A record cleared where it is named: flag clear, repeat count 0, capture record empty; the mask stays (R170). -/
def ExcRecord.clearedIf (named : Bool) (r : ExcRecord) : ExcRecord :=
  if named then { r with flag := false, repeatCount := 0, capture := none } else r

/-- The records with the named kinds cleared (R170). -/
def Exceptions.clearedFor (w : Word) (x : Exceptions) : Exceptions where
  suspect := x.suspect.clearedIf (w.getLsbD 0)
  detector := x.detector.clearedIf (w.getLsbD 1)
  overcurrent := x.overcurrent.clearedIf (w.getLsbD 2)
  supply := x.supply.clearedIf (w.getLsbD 3)
  book := x.book.clearedIf (w.getLsbD 4)
  saturation := x.saturation.clearedIf (w.getLsbD 5)

/-- CLEAR EXCEPTIONS of a set of kinds (R170). -/
def requestClearExceptions (kinds : Word) (s : State) : State × Reply :=
  let t := withExceptions (s.exceptions.clearedFor kinds) s
  (t, ⟨.done, t.exceptions.flagWord⟩)

end Sys2Proof.Machine
end

