-- ==== Sys2Proof/Machine/PenaltyBook.lean ====
section
/-! DEFINITION. The penalty book (chapter 6): room, creation, activation, merging, automatic calls, deslots and clean laps. -/

namespace Sys2Proof.Machine

/-! ### Room and creation (R105, R106, R108, R122) -/

/-- A slot for a new entry: the lowest EMPTY one; else the slot of the entry that closed first, which is dropped; none when
every entry is open (R105, R122). -/
def makeRoom (s : State) : Option (State × Nat) :=
  match findSlot (fun e => e.tag == .empty) s.book.slots with
  | some k => some (s, k)
  | none =>
    match s.book.closed with
    | [] => none
    | k :: rest =>
      let t := setTag k .empty s
      some ({ t with book := { t.book with closed := rest, dropped := bump255 t.book.dropped } }, k)

/-- The sequence numbers held by non-EMPTY entries (R106). -/
def heldSeqs (b : Book) : List Nat := (b.slots.filter fun e => e.tag != .empty).map Entry.seq

/-- The number the next entry takes: the counter's, passing over held ones (R106). -/
def bookSeq (b : Book) : Nat := freeSeq (heldSeqs b) (Config.bookSlots + 1) b.nextSeq

/-- The progress of a new entry (R108). -/
def initialProgress (k : Kind) (amount : Nat) : Option Nat :=
  match k with
  | .stopGo => some (amount * 1000)
  | .powerCap => some amount
  | .warning | .timeAdd | .lapDeduct | .standdown => none

/-- A call that is to create an entry: its lane, kind, amount as called, origin, and whether it waits for confirmation. -/
structure NewCall where
  lane : Lane
  kind : Kind
  amount : Nat
  origin : Origin
  waits : Bool
  deriving DecidableEq, Repr

/-- The entry a call creates (R105, R108, R110). -/
def newEntry (s : State) (c : NewCall) : Entry where
  tag := if c.waits then .called else .active
  seq := bookSeq s.book
  lane := c.lane
  kind := c.kind
  amount := clampAmount c.kind c.amount
  origin := c.origin
  callTime := s.heat.raceClock
  callStation := s.now
  activationTime := none
  closeTime := none
  mergeCount := 0
  outcomes := {}
  progress := initialProgress c.kind (clampAmount c.kind c.amount)

/-- An entry is created in a slot; the sequence counter advances past its number, and PENALTY is posted (R105 to R107). -/
def createEntry (slot : Nat) (c : NewCall) (s : State) : State :=
  let e := newEntry s c
  let t := s.modEntry slot fun _ => e
  post .penalty { t with book := { t.book with nextSeq := succSeq e.seq } }

/-! ### Activation (R116 to R120) -/

/-- Racing is over for a lane: a STOP_GO activated now is converted (R120). -/
def stopGoMustConvert (s : State) (l : Lane) : Bool :=
  match (s.lane l).status with
  | .finished | .stoodDown => true
  | .out | .grid | .running => s.phase == .settling || s.phase == .ended

/-- The activation of an entry of a kind on a lane, its tag already ACTIVE (R117 to R120). -/
def activateKind (slot : Nat) (e : Entry) (s : State) : State :=
  let served (o : Outcomes) (t : State) : State := closeEntry slot .served o t
  let converted : Outcomes := { e.outcomes with converted := true }
  match e.kind with
  | .warning => served e.outcomes s
  | .timeAdd =>
    finishLaneChange e.lane false (served e.outcomes (addPenaltyTime e.lane (e.amount * Config.ticksPerSecond) s))
  | .lapDeduct =>
    if s.staging.heatMode = .lapTarget ∧ (s.lane e.lane).status = .finished then
      finishLaneChange e.lane false
        (served converted (addPenaltyTime e.lane (e.amount * (s.lane e.lane).referenceLap) s))
    else finishLaneChange e.lane false (served e.outcomes (addDeduction e.lane e.amount s))
  | .standdown => standDown e.lane (served e.outcomes s)
  | .stopGo =>
    if stopGoMustConvert s e.lane then
      finishLaneChange e.lane false
        (served converted (addPenaltyTime e.lane (e.amount * Config.ticksPerSecond) s))
    else waitForStop e.lane e.seq s
  | .powerCap => waitForCap e.lane e.seq s

/-- The entry of a slot becomes ACTIVE: its activation time takes the race clock, and it acts by its kind (R107, R116). -/
def activate (slot : Nat) (s : State) : State :=
  let t := setTag slot .active (s.modEntry slot fun e => { e with activationTime := some s.heat.raceClock })
  activateKind slot (t.entry slot) t

/-- An automatic call: created ACTIVE and activated at once, or lost with BOOK raised where no room can be made (R122,
R123). -/
def autoCall (l : Lane) (k : Kind) (amount : Nat) (o : Origin) (src : Source) (s : State) : State :=
  match makeRoom s with
  | none => raise .book (some l) (some src) .lost s
  | some (t, slot) => activate slot (createEntry slot ⟨l, k, amount, o, false⟩ t)

/-! ### Merging (R112) -/

/-- An entry into which a marshal call of a lane and kind is merged (R112). -/
def mergesWith (s : State) (l : Lane) (k : Kind) (e : Entry) : Bool :=
  (e.tag == .called || e.tag == .active) &&
    (match e.origin with
      | .marshal _ => true
      | .control | .jumpStart | .deslotEscalation => false) &&
    e.lane == l && e.kind == k && decide (elapsed s.now e.callStation < s.staging.mergeWindow * 1000)

/-- Of the entries that satisfy a test, the slot of the one with the latest call station time (R112); `slot` is the number
of the list's first slot and `found` the best so far. -/
def latestSlot (s : State) (test : Entry → Bool) : Nat → Option Nat → List Entry → Option Nat
  | _, found, [] => found
  | slot, found, e :: es =>
    let better :=
      match found with
      | none => true
      | some k => decide (elapsed s.now e.callStation < elapsed s.now (s.entry k).callStation)
    latestSlot s test (slot + 1) (if test e && better then some slot else found) es

/-- The slot into which a marshal call of a lane and kind is merged, if any (R112). -/
def mergeSlot (s : State) (l : Lane) (k : Kind) : Option Nat := latestSlot s (mergesWith s l k) 0 none s.book.slots

/-! ### CALL (R109, R110) -/

/-- The phases in which a role may call (R109, check 2). -/
def callPhase (r : Role) (ph : Phase) : Bool :=
  match r, ph with
  | .control, .countdown | .control, .green | .control, .hold | .control, .resuming | .control, .finishing
  | .control, .settling | .control, .ended => true
  | .marshal, .green | .marshal, .hold | .marshal, .resuming | .marshal, .finishing => true
  | _, _ => false

/-- The kinds a role may call (R109, check 1). -/
def callKind (r : Role) (k : Kind) : Bool :=
  match r, k with
  | .marshal, .lapDeduct | .marshal, .powerCap | .marshal, .standdown => false
  | _, _ => true

/-- The lane status and phase turn a call of a kind away (R109, check 4). -/
def callWrongState (s : State) (l : Lane) (k : Kind) : Bool :=
  (s.lane l).status == .stoodDown ||
    (k == .powerCap && ((s.lane l).status == .finished || s.phase == .settling || s.phase == .ended))

/-- The origin a call takes from its port (R181). -/
def callOrigin (s : State) (p : Port) : Origin := if s.role p = .marshal then .marshal p else .control

/-- A call that has passed every check but room: it creates an entry, recycles, or is refused with BOOK_FULL (R109, R110,
R122). -/
def createCall (p : Port) (l : Lane) (k : Kind) (amount : Nat) (s : State) : State × Reply :=
  match makeRoom s with
  | none => refuse .bookFull (raise .book (some l) (some (.port p)) .refused s)
  | some (t, slot) =>
    let waits := t.staging.confirmMarshalCalls && s.role p == .marshal
    let u := createEntry slot ⟨l, k, amount, callOrigin s p, waits⟩ t
    done (u.entry slot).seq (settle (if waits then u else activate slot u))

/-- A CALL of a lane number, kind code and amount, checked in the order of R109. -/
def requestCall (p : Port) (lane kind amount : Byte) (s : State) : State × Reply :=
  match kindOfCode kind.toNat with
  | none => refuse .unknownRequest s
  | some k =>
    if !callKind (s.role p) k then refuse .role s
    else if !callPhase (s.role p) s.phase then refuse .wrongPhase s
    else
      match laneOf lane with
      | none => refuse .noLane s
      | some l =>
        if (s.lane l).status = .out then refuse .noLane s
        else if callWrongState s l k then refuse .wrongState s
        else
          match if s.role p = .marshal then mergeSlot s l k else none with
          | some slot =>
            (countEvent .merges (s.modEntry slot fun e => { e with mergeCount := min 15 (e.mergeCount + 1) }),
              ⟨.merged, dataOf (s.entry slot).seq⟩)
          | none => createCall p l k amount.toNat s

/-! ### CONFIRM, lapse, WAIVE, CLEAR BOOK (R114, R115, R121, R127) -/

/-- CONFIRM of a sequence number (R115). -/
def requestConfirm (seq : Word) (s : State) : State × Reply :=
  match slotOf s.book seq.toNat with
  | none => refuse .noEntry s
  | some slot =>
    if (s.entry slot).tag = .called then done seq.toNat (settle (activate slot s)) else refuse .wrongState s

/-- A CALLED entry lapses: WAIVED with LAPSED (R114). -/
def lapse (slot : Nat) (s : State) : State :=
  closeEntry slot .waived { (s.entry slot).outcomes with lapsed := true } s

/-- The CALLED entry of a slot has reached its confirm window (R114). -/
def lapseDue (s : State) (slot : Nat) : Bool :=
  (s.entry slot).tag == .called &&
    decide (s.staging.confirmWindow * 1000 ≤ elapsed s.now (s.entry slot).callStation)

/-- WAIVE of a sequence number (R121, R138). -/
def requestWaive (seq : Word) (s : State) : State × Reply :=
  match slotOf s.book seq.toNat with
  | none => refuse .noEntry s
  | some slot =>
    let e := s.entry slot
    match e.tag with
    | .called | .active | .serving =>
      done seq.toNat (settle (leaveChannels e.lane e.seq (closeEntry slot .waived e.outcomes s)))
    | .empty | .served | .waived => refuse .wrongState s

/-- Every slot becomes EMPTY, keeping its other fields (R105), and the dropped-record count 0 (R127 to R129). -/
def Book.cleared (b : Book) : Book :=
  { b with slots := b.slots.map (fun e => { e with tag := .empty }), dropped := 0, closed := [] }

/-- How many slots are not EMPTY (R127). -/
def Book.heldCount (b : Book) : Nat := (heldSeqs b).length

/-- CLEAR BOOK (R127): in STAGED the waiting entries leave their channels. -/
def requestClearBook (s : State) : State × Reply :=
  match s.phase with
  | .staged | .ended =>
    let n := s.book.heldCount
    let t := { s with book := s.book.cleared, channels := Lanes.all Channels.empty }
    done n (settle (if n = 0 then t else post .penalty t))
  | _ => refuse .wrongPhase s

/-! ### Deslots and clean laps (R124 to R126) -/

/-- A DESLOT from a marshal port is merged into the lane's last counted marshal report (R124). -/
def deslotMerges (s : State) (p : Port) (l : Lane) : Bool :=
  s.role p == .marshal &&
    match (s.deslots.get l).mark with
    | some m => decide (elapsed s.now m < s.staging.mergeWindow * 1000)
    | none => false

/-- The escalation test: a count that reaches the threshold makes an automatic POWER_CAP call and becomes 0 (R126). -/
def escalate (l : Lane) (s : State) : State :=
  if s.staging.escalationThreshold ≠ 0 ∧ (s.deslots.get l).count = s.staging.escalationThreshold then
    (autoCall l .powerCap s.staging.escalationCapLaps .deslotEscalation .deslotEscalation s).modDeslot l
      fun d => { d with count := 0 }
  else s

/-- A counted deslot report (R124). -/
def countDeslot (p : Port) (l : Lane) (s : State) : State :=
  escalate l (s.modDeslot l fun d =>
    { count := bump255 d.count, clean := 0, mark := if s.role p = .marshal then some s.now else d.mark })

/-- DESLOT of a lane number (R124). -/
def requestDeslot (p : Port) (lane : Byte) (s : State) : State × Reply :=
  if !s.phase.racing then refuse .wrongPhase s
  else
    match laneOf lane with
    | none => refuse .noLane s
    | some l =>
      match (s.lane l).status with
      | .out => refuse .noLane s
      | .grid | .finished | .stoodDown => refuse .wrongState s
      | .running =>
        if deslotMerges s p l then (countEvent .merges s, ⟨.merged, dataOf (s.deslots.get l).count⟩)
        else
          let t := countDeslot p l s
          done (t.deslots.get l).count (settle t)

/-- A valid line crossing counts as a clean lap; the count that reaches the clean-lap reset zeroes the deslot count (R125). -/
def countCleanLap (l : Lane) (s : State) : State :=
  s.modDeslot l fun d =>
    let n := bump255 d.clean
    { d with clean := n, count := if n = s.staging.cleanLapReset then 0 else d.count }

end Sys2Proof.Machine
end

