-- ==== Sys2Proof/Machine/Qualifier.lean ====
section
/-! DEFINITION. The Crossing Qualifier (sections 2.2 to 2.4) with the jump-start detection (R50), and the Detector Front End's
faults, promotion and lost timing that its verdicts bring (R8 to R12). -/

namespace Sys2Proof.Machine

/-! ### Detector faults, promotion, lost timing (R8 to R12) -/

/-- A lane's sector detector is promoted to timing line (R10). -/
def promote (l : Lane) (s : State) : State :=
  (s.modDetector l .sector fun d => { d with promoted := true }).modLane l fun r =>
    { r with fallback := true, rebasePending := r.rebasePending || s.phase.atOrAfterGreen }

/-- What becomes of a lane's timing when an IN_SERVICE detector leaves service: promotion, TIMING_LOST, or nothing (R11, R12,
R14). -/
def loseDetector (l : Lane) (k : DetKind) (s : State) : State :=
  match k with
  | .line =>
    if (s.detector l .sector).state = .inService then promote l s
    else s.modLane l fun r => { r with timingLost := true }
  | .sector =>
    if (s.detector l .sector).promoted then s.modLane l fun r => { r with timingLost := true } else s

/-- The detail code of a fault reason (section 9.1). -/
def FaultReason.detail : FaultReason → Detail
  | .stuck => .stuck
  | .erratic => .erratic

/-- A detector fault is reported: the fault reason is set and DETECTOR raised; with DETECTOR masked the detector becomes
FAULTED and the lane's timing follows (R9, R12). -/
def reportDetector (l : Lane) (k : DetKind) (f : FaultReason) (s : State) : State :=
  let t := raise .detector (some l) (some (.detector k)) f.detail
    (s.modDetector l k fun d => { d with faultReason := some f })
  if masked .detector s then loseDetector l k (t.modDetector l k fun d => { d with state := .faulted }) else t

/-- A valid or re-base verdict sets the detector's consecutive-suspect count to 0 (R8). -/
def clearSuspects (l : Lane) (k : DetKind) (s : State) : State :=
  s.modDetector l k fun d => { d with suspectCount := 0 }

/-- A suspect verdict raises the count up to 7; one that finds it at 6 or 7 reports ERRATIC (R8). -/
def countSuspect (l : Lane) (k : DetKind) (s : State) : State :=
  let n := (s.detector l k).suspectCount
  let t := s.modDetector l k fun d => { d with suspectCount := min 7 (n + 1) }
  if 6 ≤ n then reportDetector l k .erratic t else t

/-! ### Jump starts (R50) -/

/-- A crossing handed to jump-start detection: the lane's jump mark is set and an automatic call made, once per countdown
(R50). -/
def jumpCrossing (l : Lane) (s : State) : State :=
  if s.heat.jumpMarks.get l then s
  else
    autoCall l s.staging.jumpKind.kind s.staging.jumpAmount .jumpStart .jumpStart
      (s.modHeat fun h => { h with jumpMarks := h.jumpMarks.set l true })

/-! ### Sector crossings (R20) -/

/-- A sector crossing is recorded against the lap in progress (R20, R68). -/
def sectorCrossing (l : Lane) (c : Nat) (s : State) : State :=
  let last := (s.lane l).lastCrossing
  if (s.contexts.get l).sectorMark.isNone && decide (last < c) then
    (s.modContext l fun x => { x with sectorMark := some c }).modLane l fun r => { r with split := some (c - last) }
  else s

/-! ### Line crossings (R21 to R24) -/

/-- The verdict on a line crossing (R21). -/
inductive Verdict where
  | rebase
  | valid (standing : Bool)
  | suspect (r : SuspectReason)
  deriving DecidableEq, Repr

/-- The lockout test fails: captured earlier than the last crossing, or later by less than the lockout (R21, test 3). -/
def tooSoon (s : State) (l : Lane) (c : Nat) : Bool :=
  let last := (s.lane l).lastCrossing
  decide (c < last) || decide (c - last < lockoutTicks s.staging)

/-- The sector test applies to a line crossing of the detector kind (R21, test 4). -/
def sectorTestApplies (s : State) (l : Lane) (k : DetKind) : Bool :=
  let d := s.detector l .sector
  s.staging.sectorUse == .confirm && k == .line && d.state == .inService && !d.promoted

/-- The verdict of the first test that decides (R21). -/
def verdictOf (s : State) (l : Lane) (k : DetKind) (c : Nat) : Verdict :=
  if (s.lane l).rebasePending then .rebase
  else if !(s.contexts.get l).referenceSet then .valid true
  else if tooSoon s l c then .suspect .tooSoon
  else if sectorTestApplies s l k && (s.contexts.get l).sectorMark.isNone then .suspect .noSector
  else .valid false

/-- A re-base: the last crossing time moves, no lap is counted, and the order key stays (R22, R68). -/
def rebase (l : Lane) (c : Nat) (s : State) : State :=
  let t := s.modLane l fun r => { r with lastCrossing := c, rebasePending := false, split := none }
  supersede l (t.modContext l fun _ => ⟨true, none, false, capMarkNow s l, false⟩)

/-- The track is under a call: HOLD or RESUMING. -/
def underCallNow (s : State) : Bool := s.phase == .hold || s.phase == .resuming

/-- The flags of a lap closed by a valid line crossing (R24). UNDER_CALL goes by the phase at the closing crossing (R24), and the
lap that a stop-go begun under a call opens carries it whenever it closes (R134): DESIGN CHOICE (log entry 36). -/
def validFlags (s : State) (l : Lane) (k : DetKind) (standing : Bool) : LapFlags :=
  let x := s.contexts.get l
  { standing := standing
    underCall := underCallNow s || x.underCallMark
    capped := x.capMark
    penaltyLap := x.stopGoMark
    fallback := k == .sector }

/-- A valid line crossing: the lap is recorded, the crossing goes to the Penalty Server and the Penalty Book, the new lap
opens, and queued entries are checked for supersession (R23). A stop-go that starts here under a call marks the new lap
(R134). -/
def validLap (l : Lane) (k : DetKind) (c : Nat) (standing : Bool) (s : State) : State :=
  let lap : TimedLap := ⟨c, validFlags s l k standing, (s.lane l).split, none⟩
  let s1 := (recordTimed l lap s).1
  let (s2, started) := serverCrossing l c s1
  let s3 := countCleanLap l s2
  supersede l (s3.modContext l fun _ => ⟨true, none, started, capMarkNow s3 l, started && underCallNow s⟩)

/-- A line crossing is qualified: the verdict goes to the Front End and is then carried out (R8, R21 to R25). -/
def qualify (l : Lane) (k : DetKind) (c : Nat) (s : State) : State :=
  match verdictOf s l k c with
  | .rebase => rebase l c (clearSuspects l k s)
  | .valid standing => validLap l k c standing (clearSuspects l k s)
  | .suspect r => takeSuspect l k c r (countSuspect l k s)

/-- A line crossing under the phase filter (R18, R19). -/
def lineCrossing (l : Lane) (k : DetKind) (c : Nat) (s : State) : State :=
  match s.phase with
  | .idle | .staged | .ended => s
  | .countdown => jumpCrossing l s
  | .green | .hold | .resuming | .finishing => if c = 0 then jumpCrossing l s else qualify l k c s
  | .settling => if c < s.heat.expiryTime.getD 0 then qualify l k c s else s

/-- A sector crossing under the phase filter; one captured at 0 is ignored in every phase (R18, R19). -/
def sectorEvent (l : Lane) (c : Nat) (s : State) : State :=
  if c = 0 then s
  else
    match s.phase with
    | .idle | .staged | .countdown | .ended => s
    | .green | .hold | .resuming | .finishing => sectorCrossing l c s
    | .settling => if c < s.heat.expiryTime.getD 0 then sectorCrossing l c s else s

/-- The qualifier ignores a lane's events: FINISHED, STOOD_DOWN or TIMING_LOST (R18). -/
def ignoresLane (s : State) (l : Lane) : Bool :=
  (s.lane l).status == .finished || (s.lane l).status == .stoodDown || (s.lane l).timingLost

/-- A crossing event handed over by the Front End: role line for a line detector and a promoted sector detector, sector
otherwise (R3, R18). -/
def takeCrossing (l : Lane) (k : DetKind) (c : Nat) (s : State) : State :=
  if ignoresLane s l then s
  else if k = .line ∨ (s.detector l .sector).promoted = true then lineCrossing l k c s
  else sectorEvent l c s

end Sys2Proof.Machine
end

