-- ==== Sys2Proof/Machine/FrontEnd.lean ====
section
/-! DEFINITION. The Detector Front End (chapter 1): level changes and crossing edges, the stuck watch, DETECTOR OUT and
DETECTOR RESTORE. -/

namespace Sys2Proof.Machine

/-! ### Level changes (R1 to R4) -/

/-- The edge setting for a detector's kind (R2). -/
def edgeSetting (st : Staging) : DetKind → DetectorEdge
  | .line => st.edgeLine
  | .sector => st.edgeSector

/-- A change of filtered level to `broken` is a crossing edge under a setting (R2). -/
def isEdge (e : DetectorEdge) (broken : Bool) : Bool :=
  match e with
  | .leading => broken
  | .trailing => !broken

/-- The environment's level of a detector input. -/
def Pins.detector (x : Pins) (l : Lane) : DetKind → Bool
  | .line => x.line.get l
  | .sector => x.sector.get l

/-- A detector input's level as the last sample of its run found it (log entry 5). -/
def Pins.withDetector (x : Pins) (l : Lane) (k : DetKind) (level : Bool) : Pins :=
  match k with
  | .line => { x with line := x.line.set l level }
  | .sector => { x with sector := x.sector.set l level }

/-- The record after a change of filtered level: the run count returns to 0, and the broken-beam start time takes the station
time of the run's first sample or becomes absent (R1, R4). -/
def Detector.changeLevel (broken : Bool) (brokenAt : StationTime) (d : Detector) : Detector :=
  { d with broken := broken, runCount := 0, brokenStart := if broken then some brokenAt else none }

/-- The record after a crossing: count raised, last capture time set (R3). -/
def Detector.countCrossing (c : Nat) (d : Detector) : Detector :=
  { d with crossingCount := min Config.top16 (d.crossingCount + 1), lastCapture := some c }

/-- A crossing edge captured at `c`: in IN_SERVICE it becomes a crossing and goes to the qualifier; otherwise it goes no
further (R3). -/
def crossingEdge (l : Lane) (k : DetKind) (c : Nat) (s : State) : State :=
  if (s.detector l k).state = .inService then takeCrossing l k c (s.modDetector l k (Detector.countCrossing c)) else s

/-- A filtered level changes (R1 to R4). -/
def levelChange (l : Lane) (k : DetKind) (broken : Bool) (c : Nat) (brokenAt : StationTime) (s : State) : State :=
  let t := { s with pins := s.pins.withDetector l k broken }.modDetector l k (Detector.changeLevel broken brokenAt)
  if isEdge (edgeSetting s.staging k) broken then crossingEdge l k c t else t

/-- The level change is one that can occur: the level differs from the filtered level, and the capture time is a value of
the race clock (R1, R2; log entry 5). -/
def levelChangeDue (s : State) (l : Lane) (k : DetKind) (broken : Bool) (c : Nat) : Bool :=
  (s.detector l k).broken != broken && decide (c ≤ Config.clockCap)

/-! ### The stuck watch (R7) -/

/-- Of two station times, the later: the one whose difference from now is the smaller (R7). -/
def laterOf (now a b : StationTime) : StationTime := if elapsed now a < elapsed now b then a else b

/-- The start of a detector's stuck watch: the later of the broken-beam start time and the latest entry into GREEN or
FINISHING (R7). -/
def watchStart (s : State) (d : Detector) : Option StationTime :=
  match d.brokenStart, s.heat.racingSince with
  | some b, some r => some (laterOf s.now b r)
  | _, _ => none

/-- A detector's stuck watch has reached the stuck limit and has not expired before in this stretch (R7). -/
def stuckDue (s : State) (l : Lane) (k : DetKind) : Bool :=
  let d := s.detector l k
  watchRuns s l d && !d.watchExpired &&
    match watchStart s d with
    | some t => decide (s.staging.stuckLimit ≤ elapsed s.now t)
    | none => false

/-- A stuck watch expires (R7, R9). -/
def expireWatch (l : Lane) (k : DetKind) (s : State) : State :=
  settle (reportDetector l k .stuck (s.modDetector l k fun d => { d with watchExpired := true }))

/-! ### DETECTOR OUT and DETECTOR RESTORE (R13 to R16) -/

/-- The checks both requests share (R13): the lane they name, or the refusal. -/
def detectorChecks (lane : Byte) (k : DetKind) (s : State) : Except Reason Lane :=
  if s.phase = .idle ∨ s.phase = .ended then .error .wrongPhase
  else
    match laneOf lane with
    | none => .error .noLane
    | some l =>
      if (s.lane l).status = .out then .error .noLane
      else if (s.detector l k).state = .disabled then .error .wrongState
      else .ok l

/-- DETECTOR OUT on a lane's detector that passed the checks (R14). -/
def takeOut (l : Lane) (k : DetKind) (s : State) : State × Reply :=
  match (s.detector l k).state with
  | .out => (s, ⟨.already, dataOf DetState.out.code⟩)
  | .inService => done DetState.out.code (settle (loseDetector l k (s.modDetector l k fun d => { d with state := .out })))
  | .disabled | .faulted => done DetState.out.code (settle (s.modDetector l k fun d => { d with state := .out }))

/-- DETECTOR OUT of a lane number and a detector kind code (R13, R14, R196). -/
def requestDetectorOut (lane : Byte) (kind : Word) (s : State) : State × Reply :=
  match detKindOfCode kind.toNat with
  | none => refuse .unknownRequest s
  | some k =>
    match detectorChecks lane k s with
    | .error r => refuse r s
    | .ok l => takeOut l k s

/-- A detector returns to service: IN_SERVICE, fault reason absent, consecutive-suspect count 0 (R15, R16). -/
def Detector.restored (d : Detector) : Detector :=
  { d with state := .inService, faultReason := none, suspectCount := 0 }

/-- A lane has a timing line again: TIMING_LOST is cleared, and REBASE_PENDING is set at or after the green event (R15,
R16). -/
def LaneRecord.retimed (afterGreen : Bool) (r : LaneRecord) : LaneRecord :=
  { r with timingLost := false, rebasePending := r.rebasePending || afterGreen }

/-- A promotion ends: promoted becomes no, the sector detector's consecutive-suspect count 0, FALLBACK is cleared (R10). -/
def endPromotion (l : Lane) (s : State) : State :=
  (s.modDetector l .sector fun d => { d with promoted := false, suspectCount := 0 }).modLane l fun r =>
    { r with fallback := false }

/-- DETECTOR RESTORE of a lane's line detector (R15). -/
def restoreLine (l : Lane) (s : State) : State :=
  let t := s.modDetector l .line Detector.restored
  let after := s.phase.atOrAfterGreen
  if (s.detector l .sector).promoted then (endPromotion l t).modLane l (LaneRecord.retimed after)
  else if (s.lane l).timingLost then t.modLane l (LaneRecord.retimed after)
  else t

/-- DETECTOR RESTORE of a lane's sector detector: an ordinary sector detector beside an IN_SERVICE line detector, the timing
line in place of one that is FAULTED or OUT (R16). -/
def restoreSector (l : Lane) (s : State) : State :=
  let t := s.modDetector l .sector Detector.restored
  match (s.detector l .line).state with
  | .inService | .disabled => t
  | .faulted | .out => (promote l t).modLane l (LaneRecord.retimed s.phase.atOrAfterGreen)

/-- DETECTOR RESTORE of a line detector, by lane number (R13, R15). -/
def requestRestoreLine (lane : Byte) (s : State) : State × Reply :=
  match detectorChecks lane .line s with
  | .error r => refuse r s
  | .ok l => done DetState.inService.code (settle (restoreLine l s))

/-- DETECTOR RESTORE of a sector detector, by lane number (R13, R16). -/
def requestRestoreSector (lane : Byte) (s : State) : State × Reply :=
  match detectorChecks lane .sector s with
  | .error r => refuse r s
  | .ok l => done DetState.inService.code (settle (restoreSector l s))

end Sys2Proof.Machine
end

