-- ==== Sys2Proof/Machine/Heat.lean ====
section
/-! DEFINITION. The Heat Controller's requests and timers (sections 3.4 to 3.8). -/

namespace Sys2Proof.Machine

/-! ### Staging and clearing (R45, R46) -/

/-- T_e of a heat: heat time × 100,000 in a timed heat, absent in LAP_TARGET (section 3.3). -/
def expiryOf (st : Staging) : Option Nat :=
  match st.heatMode with
  | .timedFreeze | .timedRunToLine => some (st.heatTime * Config.ticksPerSecond)
  | .lapTarget => none

/-- The enabled lanes in ascending lane number (R80). -/
def enabledList (st : Staging) : List Lane := Lane.all.filter fun l => st.lanesEnabled.get l

/-- A detector record set by STAGE HEAT or CLEAR HEAT; its filter and broken-beam start time are left (R5). -/
def Detector.staged (inService : Bool) (d : Detector) : Detector :=
  { d with
    state := if inService then .inService else .disabled
    promoted := false
    faultReason := none
    suspectCount := 0
    lastCapture := none
    crossingCount := 0 }

/-- The detector records of a staged heat (R5). -/
def stagedDetectors (st : Staging) (x : Detectors) : Detectors where
  line := x.line.mapLane fun l d => d.staged (st.lanesEnabled.get l)
  sector := x.sector.mapLane fun l d => d.staged (st.lanesEnabled.get l && st.sectorUse != .off)

/-- The lane record of a staged heat (R65). -/
def stagedLane (st : Staging) (l : Lane) : LaneRecord :=
  LaneRecord.fresh (st.driverTags.get l) (if st.lanesEnabled.get l then .grid else .out) (placeIn l (enabledList st))
    st.nominalLap

/-- The heat fields set alike by STAGE HEAT and CLEAR HEAT (R45, R46). -/
def Heat.cleared (phase : Phase) (expiry : Option Nat) (h : Heat) : Heat where
  phase := phase
  resumeTarget := none
  expired := false
  ending := none
  raceClock := 0
  expiryTime := expiry
  finishReference := none
  finishingStart := none
  countdownStart := none
  lampsLit := 0
  resumeStart := none
  trackCall := TrackCallRecord.empty
  jumpMarks := Lanes.all false
  red := RedLamps.out
  greenLit := false
  greenToggled := h.greenToggled
  racingSince := none

/-- What STAGE HEAT and CLEAR HEAT clear alike: the book, the counts, the channels, the trips, the queue and the lane
contexts (R45, R46, R17, R38, R128, R131, R158). -/
def clearHeatRecords (s : State) : State :=
  { s with
    book := s.book.cleared
    deslots := Lanes.all DeslotRecord.reset
    channels := Lanes.all Channels.empty
    power := s.power.mapLane fun _ p => p.clearTrip
    queue := []
    contexts := Lanes.all Context.reset }

/-- ORDER, PENALTY and PHASE are posted by STAGE HEAT and CLEAR HEAT (R84, R128, R45, R46). -/
def postStaging (s : State) : State := post .phase (post .penalty (post .order s))

/-- The heat is staged (R45). -/
def stageHeat (s : State) : State :=
  let t := clearHeatRecords s
  settle (postStaging
    { t with
      lanes := t.lanes.mapLane fun l _ => stagedLane s.staging l
      order := enabledList s.staging
      detectors := stagedDetectors s.staging t.detectors
      heat := t.heat.cleared .staged (expiryOf s.staging) })

/-- STAGE HEAT (R45). -/
def requestStageHeat (s : State) : State × Reply :=
  match s.phase with
  | .idle | .ended =>
    let n := (enabledList s.staging).length
    if n = 0 then refuse .noLane s else done n (stageHeat s)
  | _ => refuse .wrongPhase s

/-- CLEAR HEAT (R46). -/
def requestClearHeat (s : State) : State × Reply :=
  match s.phase with
  | .staged | .ended =>
    let t := clearHeatRecords s
    done Phase.idle.code (settle (postStaging
      { t with
        lanes := t.lanes.mapLane fun l _ =>
          LaneRecord.fresh (s.staging.driverTags.get l) .out 0 s.staging.nominalLap
        order := []
        detectors :=
          { line := t.detectors.line.mapLane fun _ d => d.staged false
            sector := t.detectors.sector.mapLane fun _ d => d.staged false }
        heat := t.heat.cleared .idle none }))
  | _ => refuse .wrongPhase s

/-! ### The start (R47 to R49) -/

/-- START (R47). -/
def requestStart (s : State) : State × Reply :=
  match s.phase with
  | .staged =>
    done Phase.countdown.code (settle (toPhase .countdown (s.modHeat fun h =>
      { h with
        countdownStart := some s.now
        jumpMarks := Lanes.all false
        lampsLit := 1
        red := RedLamps.firstLit 1 })))
  | _ => refuse .wrongPhase s

/-- Milliseconds since the countdown start. -/
def countdownElapsed (s : State) : Nat :=
  match s.heat.countdownStart with
  | some t => elapsed s.now t
  | none => 0

/-- The next red lamp is due: lamp k + 1 lights k × 1,000 ms after the countdown start (R47). -/
def redLampDue (s : State) : Bool :=
  s.phase == .countdown && decide (s.heat.lampsLit < 5) && decide (s.heat.lampsLit * 1000 ≤ countdownElapsed s)

/-- The next red lamp lights (R47). -/
def lightRed (s : State) : State :=
  s.modHeat fun h => { h with lampsLit := h.lampsLit + 1, red := RedLamps.firstLit (h.lampsLit + 1) }

/-- The green event is due: 5,000 ms and the green delay after the countdown start (R47). -/
def greenDue (s : State) : Bool :=
  s.phase == .countdown && decide (5000 + s.staging.greenDelay ≤ countdownElapsed s)

/-- A GRID lane becomes RUNNING (R66). -/
def LaneRecord.started (r : LaneRecord) : LaneRecord := if r.status = .grid then { r with status := .running } else r

/-- The green event (R48); a heat with no lane RUNNING ends at once (R58). -/
def greenEvent (s : State) : State :=
  let s1 := s.modHeat fun h => { h with lampsLit := 0, raceClock := 0 }
  let s2 := enterRacing .green { s1 with lanes := s1.lanes.mapLane fun _ r => r.started }
  settle (if anyRunning s2 then s2 else endAllFinished [] s2)

/-- A countdown is abandoned: start lamps out, phase STAGED (R49, R51). -/
def abandonCountdown (s : State) : State :=
  toPhase .staged (s.modHeat fun h => { h with lampsLit := 0, red := RedLamps.out, greenLit := false })

/-- RECALL START (R49). -/
def requestRecallStart (s : State) : State × Reply :=
  match s.phase with
  | .countdown => done Phase.staged.code (settle (abandonCountdown s))
  | _ => refuse .wrongPhase s

/-! ### Track calls (R51 to R54) -/

/-- The record takes an accepted call (R52). -/
def TrackCallRecord.take (o : CallOrigin) (clock : Nat) (now : StationTime) (r : TrackCallRecord) : TrackCallRecord :=
  ⟨some o, some clock, some now, bump255 r.count⟩

/-- An accepted call fills the track-call record, and TRACK_CALL is posted (R51, R52). -/
def fillTrackCall (o : CallOrigin) (s : State) : State :=
  post .trackCall (s.modHeat fun h => { h with trackCall := h.trackCall.take o h.raceClock s.now })

/-- The entry into HOLD with a resume target: five reds steady, green off, no resume countdown (R51, R53). -/
def enterHold (t : Option ResumeTarget) (s : State) : State :=
  toPhase .hold (s.modHeat fun h =>
    { h with resumeTarget := t, resumeStart := none, red := RedLamps.lit, greenLit := false })

/-- A track call by its phase (R51): the state after it and the status of the answer. -/
def takeTrackCall (o : CallOrigin) (s : State) : State × Status :=
  match s.phase with
  | .green => (enterHold (some .green) (fillTrackCall o s), .done)
  | .finishing => (enterHold (some .finishing) (fillTrackCall o s), .done)
  | .resuming => (enterHold s.heat.resumeTarget (fillTrackCall o s), .done)
  | .countdown => (abandonCountdown (fillTrackCall o s), .done)
  | .hold => (s, .already)
  | .idle | .staged | .settling | .ended => (s, .refused .wrongPhase)

/-- TRACK CALL (R51): the data is the phase after the call, 0 with a refusal. -/
def requestTrackCall (p : Port) (s : State) : State × Reply :=
  match takeTrackCall (.port p) s with
  | (t, .refused r) => refuse r t
  | (t, .already) => (t, ⟨.already, dataOf t.phase.code⟩)
  | (t, st) => (settle t, ⟨st, dataOf t.phase.code⟩)

/-- The end of the resume countdown: the phase becomes the resume target (R54). -/
def endResume (s : State) : State :=
  let target := s.heat.resumeTarget.getD .green
  enterRacing target (s.modHeat fun h => { h with resumeTarget := none, resumeStart := none })

/-- RESUME (R54); with resume countdown 0 the resume ends when the request is taken. -/
def requestResume (s : State) : State × Reply :=
  match s.phase with
  | .hold =>
    let t := toPhase .resuming (s.modHeat fun h => { h with resumeStart := some s.now })
    let u := if s.staging.resumeCountdown = 0 then endResume t else t
    done u.phase.code (settle u)
  | _ => refuse .wrongPhase s

/-- Milliseconds since the resume start. -/
def resumeElapsed (s : State) : Nat :=
  match s.heat.resumeStart with
  | some t => elapsed s.now t
  | none => 0

/-- The next of red lamps 1 to 4 is due to go out: lamp k at k × resume countdown × 200 ms (R54). -/
def resumeLampDue (s : State) : Bool :=
  let k := s.heat.red.outCount + 1
  s.phase == .resuming && decide (k ≤ 4) && decide (k * s.staging.resumeCountdown * 200 ≤ resumeElapsed s)

/-- The next red lamp goes out (R54). -/
def putOutRed (s : State) : State := s.modHeat fun h => { h with red := RedLamps.firstOut (h.red.outCount + 1) }

/-- The fifth red lamp is due to go out (R54). -/
def resumeEndDue (s : State) : Bool :=
  s.phase == .resuming && decide (5 * s.staging.resumeCountdown * 200 ≤ resumeElapsed s)

/-! ### Heat endings (R55 to R61) -/

/-- The race clock has reached T_e plus a number of ticks. -/
def reachedExpiry (s : State) (extra : Nat) : Bool :=
  match s.heat.expiryTime with
  | some t => decide (t + extra ≤ s.heat.raceClock)
  | none => false

/-- Heat time can expire: in GREEN, and in HOLD and RESUMING under clock under call RUN alone. Under HOLD a call that comes first
stops the race clock short of T_e (a tick that reaches T_e puts the expiry ahead of every call: `raceClockEvents`), and expiry
waits for the resume (R55, R56). -/
def expiryOpen (s : State) : Bool :=
  match s.phase with
  | .green => true
  | .hold | .resuming => s.staging.clockUnderCall == .run
  | .idle | .staged | .countdown | .finishing | .settling | .ended => false

/-- Heat time expires in a TIMED_FREEZE heat (R55). -/
def freezeDue (s : State) : Bool := s.staging.heatMode == .timedFreeze && expiryOpen s && reachedExpiry s 0

/-- The phase becomes SETTLING; start lamps out, drives off (R55). -/
def freezeExpiry (s : State) : State :=
  settle (toPhase .settling (s.modHeat fun h =>
    { h with resumeTarget := none, resumeStart := none, expired := false, red := RedLamps.out, greenLit := false }))

/-- Heat time expires in a TIMED_RUN_TO_LINE heat whose finish reference is not yet set (R56). -/
def runToLineDue (s : State) : Bool :=
  s.staging.heatMode == .timedRunToLine && expiryOpen s && s.heat.finishReference.isNone && reachedExpiry s 0

/-- The expiry of a TIMED_RUN_TO_LINE heat: FINISHING from GREEN; under a call the heat becomes finishing-bound (R56). -/
def runToLineExpiry (s : State) : State :=
  let t := s.modHeat fun h => { h with finishReference := h.expiryTime }
  match s.phase with
  | .green => settle (enterRacing .finishing t)
  | _ => t.modHeat fun h => { h with expired := true, resumeTarget := some .finishing }

/-- The grace period has run out (R58). -/
def graceDue (s : State) : Bool :=
  (s.phase == .finishing || s.phase == .hold || s.phase == .resuming) &&
    match s.heat.finishingStart with
    | some t => decide (s.staging.grace * 1000 ≤ elapsed s.now t)
    | none => false

/-- The settle event is due: T_e + 100 in SETTLING (R59). -/
def settleDue (s : State) : Bool := s.phase == .settling && reachedExpiry s 100

/-- The race clock has reached its cap in a phase of the heat (R43, R61). Under a call this holds under either clock policy, where
R53 has the cap end HOLD under RUN: DESIGN CHOICE (log entry 39). -/
def capDue (s : State) : Bool := s.phase.racing && decide (Config.clockCap ≤ s.heat.raceClock)

/-- END HEAT (R60). -/
def requestEndHeat (s : State) : State × Reply :=
  if s.phase.atOrAfterGreen then done Phase.ended.code (settle (enterEnded .aborted false [] s)) else refuse .wrongPhase s

/-! ### The green lamp (R63) -/

/-- The flashing green lamp is due to toggle: 250 ms since it last did (R63). -/
def greenFlashDue (s : State) : Bool := s.phase == .finishing && decide (250 ≤ elapsed s.now s.heat.greenToggled)

/-- The green lamp toggles (R63). -/
def flashGreen (s : State) : State :=
  s.modHeat fun h => { h with greenLit := !h.greenLit, greenToggled := h.greenToggled + 250 }

/-! ### Station-time timers of the other blocks -/

/-- A flashing lane lamp is due to toggle (R144). -/
def laneLampDue (s : State) (l : Lane) : Bool :=
  let x := s.lamps.get l
  match x.condition.halfPeriod with
  | some h => decide (h ≤ elapsed s.now x.toggled)
  | none => false

/-- A lamp toggled, its rhythm counted on by one half-period (R144). -/
def Lamp.toggle (x : Lamp) : Lamp :=
  { x with lit := !x.lit, toggled := x.toggled + BitVec.ofNat 32 (x.condition.halfPeriod.getD 0) }

/-- A lane lamp toggles (R144). -/
def flashLane (l : Lane) (s : State) : State := { s with lamps := s.lamps.set l (s.lamps.get l).toggle }

/-- The entry a lane's stop channel is serving: its sequence number and slot. -/
def servingStop (s : State) (l : Lane) : Option (Nat × Nat) :=
  (s.channels.get l).stop.serving.bind fun seq => (slotOf s.book seq).map fun k => (seq, k)

/-- This step of station time takes the serving stop-go's progress to 0: it counts, as the lane is not HELD, and at most
1 ms is left (R134, R135). -/
def stopGoDue (s : State) (l : Lane) : Bool :=
  powerState s l != .held &&
    match servingStop s l with
    | some (_, k) => decide ((s.entry k).progress.getD 0 ≤ 1)
    | none => false

/-- A serving STOP_GO ends: SERVED with progress 0, the CUT claim cleared (R135). -/
def endStopGo (l : Lane) (s : State) : State :=
  match servingStop s l with
  | none => s
  | some (_, k) =>
    let t := closeEntry k .served (s.entry k).outcomes (s.modEntry k fun e => { e with progress := some 0 })
    settle (t.modChannels l fun c => { c with stop := { c.stop with serving := none } })

end Sys2Proof.Machine
end

