-- ==== Sys2Proof/Machine/Resets.lean ====
section
/-! DEFINITION. The four resets (section 5.6 of the scope, and the reset rules of every chapter). -/

namespace Sys2Proof.Machine

/-! ### Power-on, the reset pin and RESET PART CLEAR -/

/-- The book with every slot EMPTY, keeping its other fields as last left (R105), its counter 1 (R129; log entry 10). -/
def Book.restarted (b : Book) : Book := { b.cleared with nextSeq := 1 }

/-- A reset that acts on every block as power-on does, with the straps in force kept: the reset pin and RESET PART CLEAR
(R64, R191). The waiting commands and the levels at the pins are not the part's. -/
def fullReset (s : State) : State :=
  { State.poweredOn s.pending s.pins s.straps with book := s.book.restarted }

/-- Power is applied with the straps at some levels, which are sampled (R64, R174). -/
def powerOn (straps : Straps) (s : State) : State :=
  State.poweredOn s.pending { s.pins with straps := straps } straps

/-- The reset pin is asserted: the part is reset and held so (R64, R174). -/
def assertReset (s : State) : State := fullReset { s with pins := { s.pins with reset := true } }

/-- The reset pin is released: the straps are sampled, and each port takes its role's defaults (R174, R189). -/
def releaseReset (straps : Straps) (s : State) : State :=
  { s with
    pins := { s.pins with straps := straps, reset := false }
    straps := straps
    ports := resetPorts straps }

/-! ### RESET PART KEEP -/

/-- Every CALLED entry lapses, in ascending slot number (R114, R129). -/
def lapseCalled (s : State) : State :=
  (List.range Config.bookSlots).foldl (fun t k => if (t.entry k).tag = .called then lapse k t else t) s

/-- The phases from which a KEEP reset takes the heat to ENDED (R64). -/
def Phase.cutByKeep : Phase → Bool
  | .countdown | .green | .hold | .resuming | .finishing | .settling => true
  | .idle | .staged | .ended => false

/-- The heat fields that a KEEP reset makes absent or puts out: the station-time starts, the lamps (R63, R64). -/
def Heat.kept (h : Heat) : Heat :=
  { h with
    finishingStart := none
    countdownStart := none
    lampsLit := 0
    resumeStart := none
    red := RedLamps.out
    greenLit := false
    greenToggled := 0
    racingSince := none }

/-- A detector record after a KEEP reset: its record is kept, its filter starts again from the first sample (R6). -/
def Detector.kept (d : Detector) : Detector :=
  { d with
    brokenStart := none
    broken := false
    runCount := 0
    runRaceClock := 0
    runStationTime := 0
    watchExpired := false }

/-- What a KEEP reset does to the official record, station time being 0 again: the CALLED entries lapse, a heat in progress
enters ENDED, and the adjudication queue is drained (R38, R64, R129). -/
def keepRecords (s : State) : State :=
  let s1 := lapseCalled { s with clock := Clock.reset }
  let s2 := if s.phase.cutByKeep then enterEnded .aborted false [] s1 else s1
  drainQueue s2.queue.length s2

/-- RESET PART KEEP (R6, R64, R129, R131, R144, R162, R173, R193). -/
def keepReset (s : State) : State :=
  let t := keepRecords s
  settle
    { t with
      heat := t.heat.kept
      detectors :=
        { line := t.detectors.line.mapLane fun _ d => d.kept
          sector := t.detectors.sector.mapLane fun _ d => d.kept }
      deslots := t.deslots.mapLane fun _ d => { d with mark := none }
      lamps := Lanes.all Lamp.reset
      power := Lanes.all PowerLane.reset
      supply := ⟨false, 0⟩
      ports := resetPorts s.straps
      pendingReset := none }

/-- The reset that a RESET PART request chose (R191). -/
def takeReset (c : ResetChoice) (s : State) : State :=
  match c with
  | .clear => fullReset s
  | .keep => keepReset s

end Sys2Proof.Machine
end

