-- ==== Sys2Proof/Machine/Staging.lean ====
section
/-! DEFINITION. The staging record word by word (R39 to R41, R195): reading a field, writing one with its clamp, and the
effects of a WRITE in STAGED. -/

namespace Sys2Proof.Machine

/-- A field of the staging record (R40); there is one driver tag for each lane. -/
inductive StagingField where
  | heatMode | heatTime | lapTarget | grace | lanesEnabled
  | driverTag (l : Lane)
  | sectorUse | lockout | nominalLap | resolution | rounding | clockUnderCall | confirmMarshalCalls | confirmWindow
  | adjudicationWindow | mergeWindow | jumpKind | jumpAmount | escalationThreshold | cleanLapReset | escalationCapLaps
  | capDuty | pwmFrequency | deadTime | retryDelay | resumeCountdown | greenDelay | detectorFilter | edgeLine
  | edgeSector | stuckLimit
  deriving DecidableEq, Repr

/-- The staging fields in the order of R40, one word each: words 0 to 37 of the STAGING record (R195). -/
def stagingFields : List StagingField :=
  [.heatMode, .heatTime, .lapTarget, .grace, .lanesEnabled] ++
  [.driverTag .l1, .driverTag .l2, .driverTag .l3, .driverTag .l4, .driverTag .l5, .driverTag .l6, .driverTag .l7,
    .driverTag .l8] ++
  [.sectorUse, .lockout, .nominalLap, .resolution, .rounding, .clockUnderCall, .confirmMarshalCalls, .confirmWindow,
    .adjudicationWindow, .mergeWindow, .jumpKind, .jumpAmount, .escalationThreshold, .cleanLapReset, .escalationCapLaps,
    .capDuty, .pwmFrequency, .deadTime, .retryDelay, .resumeCountdown, .greenDelay, .detectorFilter, .edgeLine,
    .edgeSector, .stuckLimit]

/-- The word of a staging field, in the unit of its range (R194, R195). -/
def Staging.read (st : Staging) : StagingField → Word
  | .heatMode => dataOf st.heatMode.code
  | .heatTime => dataOf st.heatTime
  | .lapTarget => dataOf st.lapTarget
  | .grace => dataOf st.grace
  | .lanesEnabled => laneSetWord st.lanesEnabled
  | .driverTag l => dataOf (st.driverTags.get l)
  | .sectorUse => dataOf st.sectorUse.code
  | .lockout => dataOf st.lockout
  | .nominalLap => dataOf st.nominalLap
  | .resolution => dataOf st.resolution.code
  | .rounding => dataOf st.rounding.code
  | .clockUnderCall => dataOf st.clockUnderCall.code
  | .confirmMarshalCalls => dataOf st.confirmMarshalCalls.toNat
  | .confirmWindow => dataOf st.confirmWindow
  | .adjudicationWindow => dataOf st.adjudicationWindow
  | .mergeWindow => dataOf st.mergeWindow
  | .jumpKind => dataOf st.jumpKind.code
  | .jumpAmount => dataOf st.jumpAmount
  | .escalationThreshold => dataOf st.escalationThreshold
  | .cleanLapReset => dataOf st.cleanLapReset
  | .escalationCapLaps => dataOf st.escalationCapLaps
  | .capDuty => dataOf st.capDuty
  | .pwmFrequency => dataOf st.pwmFrequency.code
  | .deadTime => dataOf st.deadTime
  | .retryDelay => dataOf st.retryDelay
  | .resumeCountdown => dataOf st.resumeCountdown
  | .greenDelay => dataOf st.greenDelay
  | .detectorFilter => dataOf st.detectorFilter.toNat
  | .edgeLine => dataOf st.edgeLine.code
  | .edgeSector => dataOf st.edgeSector.code
  | .stuckLimit => dataOf st.stuckLimit

/-- The staging record with one field written from a word, the value clamped to the field's range (R40, R41). -/
def Staging.write (st : Staging) (f : StagingField) (w : Word) : Staging :=
  let n := w.toNat
  match f with
  | .heatMode => { st with heatMode := heatModeOfCode n }
  | .heatTime => { st with heatTime := clamp 10 36000 n }
  | .lapTarget => { st with lapTarget := clamp 1 9999 n }
  | .grace => { st with grace := clamp 10 300 n }
  | .lanesEnabled => { st with lanesEnabled := laneSetOfWord w }
  | .driverTag l => { st with driverTags := st.driverTags.set l (clamp 0 255 n) }
  | .sectorUse => { st with sectorUse := sectorUseOfCode n }
  | .lockout => { st with lockout := clamp 75 3000 n }
  | .nominalLap => { st with nominalLap := clamp 1 120 n }
  | .resolution => { st with resolution := resolutionOfCode n }
  | .rounding => { st with rounding := roundingOfCode n }
  | .clockUnderCall => { st with clockUnderCall := clockPolicyOfCode n }
  | .confirmMarshalCalls => { st with confirmMarshalCalls := onOffOfCode n }
  | .confirmWindow => { st with confirmWindow := clamp 5 120 n }
  | .adjudicationWindow => { st with adjudicationWindow := clamp 5 120 n }
  | .mergeWindow => { st with mergeWindow := clamp 0 10 n }
  | .jumpKind =>
    { st with jumpKind := jumpKindOfCode n, jumpAmount := clampAmount (jumpKindOfCode n).kind st.jumpAmount }
  | .jumpAmount => { st with jumpAmount := clampAmount st.jumpKind.kind n }
  | .escalationThreshold => { st with escalationThreshold := clampThreshold n }
  | .cleanLapReset => { st with cleanLapReset := clamp 1 50 n }
  | .escalationCapLaps => { st with escalationCapLaps := clamp 1 20 n }
  | .capDuty => { st with capDuty := clamp 10 95 n }
  | .pwmFrequency => { st with pwmFrequency := pwmFrequencyOfCode n }
  | .deadTime => { st with deadTime := clamp 1 63 n }
  | .retryDelay => { st with retryDelay := clamp 250 5000 n }
  | .resumeCountdown => { st with resumeCountdown := clamp 0 10 n }
  | .greenDelay => { st with greenDelay := clamp 0 3000 n }
  | .detectorFilter => { st with detectorFilter := onOffOfCode n }
  | .edgeLine => { st with edgeLine := edgeOfCode n }
  | .edgeSector => { st with edgeSector := edgeOfCode n }
  | .stuckLimit => { st with stuckLimit := clamp 500 10000 n }

/-- A field fixed by the staged heat: heat mode, lanes enabled, sector use (R39). -/
def StagingField.fixedWhenStaged : StagingField → Bool
  | .heatMode | .lanesEnabled | .sectorUse => true
  | _ => false

/-- A WRITE of a staging field is accepted in a phase: every field in IDLE, all but three in STAGED, none elsewhere (R39). -/
def writeAccepted (ph : Phase) (f : StagingField) : Bool :=
  match ph with
  | .idle => true
  | .staged => !f.fixedWhenStaged
  | .countdown | .green | .hold | .resuming | .finishing | .settling | .ended => false

/-- What a WRITE just stored brings about in STAGED: a driver tag is copied into its lane record, a heat time sets T_e in a
timed heat, and a nominal lap is a key change of every enabled lane (R39, R87, R81). An OUT lane's reference lap then
stays at the nominal lap of before until the next staging or clearing, where R101 and R87 differ: DESIGN CHOICE (log entry
34). -/
def stagedEffect (f : StagingField) (s : State) : State :=
  match f with
  | .driverTag l => s.modLane l fun r => { r with driverTag := s.staging.driverTags.get l }
  | .heatTime => s.modHeat fun h => { h with expiryTime := expiryOf s.staging }
  | .nominalLap => reorder ((enabledList s.staging).foldl (fun t l => rescore l t) s)
  | _ => s

/-- An accepted WRITE of a staging field (R39, R41, R187). -/
def writeField (f : StagingField) (w : Word) (s : State) : State :=
  let t := { s with staging := s.staging.write f w }
  if s.phase = .staged then stagedEffect f t else t

end Sys2Proof.Machine
end

