-- ==== Sys2Proof/Machine/Window.lean ====
section
/-! DEFINITION. The window (section 10.4) and the record layouts (chapter 11): the words of every record, the copy into a
port's snapshot, POINT, READ, WRITE and the step. -/

namespace Sys2Proof.Machine

/-! ### Encodings (R194) -/

/-- An unsigned field in one word. -/
def word1 (n : Nat) : List Word := [dataOf n]

/-- An unsigned field in two words, the high word first. -/
def word2 (n : Nat) : List Word := [dataOf (n / 65536), dataOf n]

/-- A signed field in two words in two's complement, the high word first. -/
def wordSigned (n : Int) : List Word :=
  let b := BitVec.ofInt 32 n
  [b.extractLsb' 16 16, b.extractLsb' 0 16]

/-- A one-word field that may be absent: absent reads as all ones. -/
def option1 (n : Option Nat) : List Word :=
  match n with
  | some k => word1 k
  | none => [65535]

/-- A two-word field that may be absent: absent reads as all ones in both words. -/
def option2 (n : Option Nat) : List Word :=
  match n with
  | some k => word2 k
  | none => [65535, 65535]

/-- A tick value that may be absent, raw and then reported (R91, R195). -/
def rawAndReported (st : Staging) (n : Option Nat) : List Word := option2 n ++ option2 (n.map (reported st))

/-! ### Record layouts (R195) -/

/-- Retry delay remaining: the retry delay end less station time, modulo 2^32 (R153). -/
def retryRemaining (s : State) (l : Lane) : Option Nat :=
  (s.power.get l).retryDelayEnd.map fun e => elapsed e s.now

/-- The LANES record of a lane (R195). -/
def laneWords (s : State) (l : Lane) : List Word :=
  let r := s.lane l
  let p := s.power.get l
  let d := s.deslots.get l
  let st := s.staging
  let remaining := retryRemaining s l
  word1 l.num ++ word1 r.driverTag ++ word1 r.status.code ++ word1 r.position ++
  [setWord [r.lastLap.isSome, r.bestLap.isSome, r.bestNumber.isSome, r.averageLap.isSome, r.split.isSome,
    r.fraction.isSome, r.finishTime.isSome, remaining.isSome]] ++
  word1 r.laps ++ word1 r.deducted ++ wordSigned r.netLaps ++ word1 r.netShown ++
  word2 r.timePenalty ++ word2 r.lastCrossing ++
  rawAndReported st r.lastLap ++
  rawAndReported st r.bestLap ++ option1 r.bestNumber ++
  word1 r.timedCount ++ word2 r.timedSum ++ option2 r.averageLap ++
  rawAndReported st r.split ++
  option1 r.fraction ++
  word2 r.referenceLap ++ word2 r.penaltyHundredths ++ word2 r.score ++
  rawAndReported st (some r.adjustedTime) ++
  rawAndReported st r.finishTime ++
  [setWord [r.deadHeat, r.fallback, r.rebasePending, r.timingLost]] ++
  word1 d.count ++ word1 d.clean ++
  word1 (powerState s l).code ++
  [setWord [p.drive, p.brake, p.tripped, p.locked, p.overcurrent]] ++
  word1 p.retryCount ++ option1 remaining

/-- The HISTORY record of an entry, or of a place beyond the last entry (R195). -/
def historyWords (st : Staging) : Option Lap → List Word
  | some x =>
    word1 x.number ++ [x.flags.toWord] ++ [setWord [true, x.lapTime.isSome, x.split.isSome]] ++
      word2 x.closeTime ++ rawAndReported st x.lapTime ++ rawAndReported st x.split
  | none => [65535, 0, 0, 0, 0] ++ rawAndReported st none ++ rawAndReported st none

/-- The sequence number a slot shows: absent for an EMPTY slot (R105). -/
def Entry.shownSeq (e : Entry) : Option Nat := if e.tag = .empty then none else some e.seq

/-- The BOOK record of a slot (R195). -/
def bookWords (s : State) (k : Nat) : List Word :=
  let e := s.entry k
  word1 k ++ word1 e.tag.code ++ option1 e.shownSeq ++ word1 e.lane.num ++
  word1 e.kind.code ++ word1 e.amount ++ word1 (e.origin.portNumber * 256 + e.origin.code) ++
  word1 e.mergeCount ++ [e.outcomes.toWord] ++
  [setWord [e.shownSeq.isSome, e.activationTime.isSome, e.closeTime.isSome, e.progress.isSome]] ++
  word2 e.callTime ++ word2 e.callStation.toNat ++ option2 e.activationTime ++ option2 e.closeTime ++
  option2 e.progress ++ word1 s.book.dropped

/-- The ADJUDICATION record of a queued entry, or of a place beyond the last entry (R195). -/
def suspectWords : Option Suspect → List Word
  | some x =>
    word1 x.seq ++ word1 x.lane.num ++ word1 (detKindCode x.kind) ++ word1 x.reason.code ++ word1 x.superseded.toNat ++
      [setWord [true]] ++ word2 x.capture ++ word2 x.arrival.toNat
  | none => [65535, 0, 0, 0, 0, 0, 0, 0, 0, 0]

/-- The DETECTORS record of a detector (R195). -/
def detectorWords (d : Detector) : List Word :=
  word1 d.state.code ++ word1 d.promoted.toNat ++ option1 (d.faultReason.map FaultReason.code) ++
  word1 d.suspectCount ++
  [setWord [d.faultReason.isSome, d.lastCapture.isSome, d.brokenStart.isSome]] ++
  option2 d.lastCapture ++ word1 d.crossingCount ++ option2 (d.brokenStart.map BitVec.toNat)

/-- The lanes at positions 1 to 8, absent beyond the list's length (R195). -/
def placeWords (order : List Lane) : List Word :=
  [0, 1, 2, 3, 4, 5, 6, 7].flatMap fun k => option1 (order[k]?.map Lane.num)

/-- The ORDER record (R195). -/
def orderWords (s : State) : List Word :=
  word1 s.order.length ++ placeWords s.order ++ Lane.all.flatMap (fun l => word1 (s.lane l).position) ++
  [setWord (Lane.all.map fun l => (s.lane l).deadHeat)]

/-- The EXCEPTIONS record of a kind (R195). -/
def exceptionWords (s : State) (k : ExcKind) : List Word :=
  let r := s.exceptions.get k
  let c := r.capture
  let lane := c.bind Capture.lane
  let source := c.bind Capture.source
  word1 r.flag.toNat ++ word1 r.mask.toNat ++ word1 r.repeatCount ++
  option1 (c.map fun x => x.detail.code) ++ option1 (lane.map Lane.num) ++ option1 (source.map Source.code) ++
  [setWord [c.isSome, lane.isSome, source.isSome, c.isSome, c.isSome]] ++
  option2 (c.map Capture.raceClock) ++ option2 (c.map fun x => x.stationTime.toNat) ++
  word1 s.exceptions.summary.toNat ++ [s.exceptions.holdingWord] ++
  word1 (match k with
    | .supply => s.supply.low.toNat
    | .suspect | .detector | .overcurrent | .book | .saturation => 0)

/-- The heat-state words of the STAGING record, words 38 to 63 (R195). -/
def heatWords (s : State) : List Word :=
  let h := s.heat
  let c := h.trackCall
  word1 h.phase.code ++ option1 (h.resumeTarget.map ResumeTarget.code) ++ word1 h.expired.toNat ++
  option1 (h.ending.map Ending.code) ++
  word2 h.raceClock ++ word2 s.now.toNat ++ option2 h.expiryTime ++ option2 h.finishReference ++
  option2 (h.finishingStart.map BitVec.toNat) ++ option2 (h.countdownStart.map BitVec.toNat) ++ word1 h.lampsLit ++
  option2 (h.resumeStart.map BitVec.toNat) ++
  option1 (c.origin.map CallOrigin.code) ++ option2 c.raceClock ++ option2 (c.stationTime.map BitVec.toNat) ++
  word1 c.count ++
  [setWord [h.resumeTarget.isSome, h.ending.isSome, h.expiryTime.isSome, h.finishReference.isSome,
    h.finishingStart.isSome, h.countdownStart.isSome, h.resumeStart.isSome, c.origin.isSome, c.raceClock.isSome,
    c.stationTime.isSome]]

/-- The STAGING record (R195). -/
def stagingWords (s : State) : List Word := stagingFields.map s.staging.read ++ heatWords s

/-- The PORTS record of a port whose window is `w` (R195); the race clock and station time are those of the copy. -/
def portWords (s : State) (p : Port) (w : Window) : List Word :=
  let x := s.ports.get p
  word1 p.num ++ word1 (s.role p).code ++ word1 (baudCode s.straps) ++ word1 x.receive.code ++
  word1 w.space.code ++ word1 w.record ++ word1 w.word ++ word1 w.mode.code ++
  [x.alerts.toWord, x.alertMask.toWord] ++ word1 x.counterClass.code ++ word1 x.counter ++
  word2 s.heat.raceClock ++ word2 s.now.toNat

/-- The lane of a record index: record k of LANES is lane k + 1 (R183). -/
def laneOfRecord (k : Nat) : Lane := (laneOfNumber (k + 1)).getD .l1

/-- The exception kind of a record index (R183). -/
def kindOfRecord (k : Nat) : ExcKind :=
  match k with
  | 0 => .suspect | 1 => .detector | 2 => .overcurrent | 3 => .supply | 4 => .book | _ => .saturation

/-- The words of the record that a port's window `w` points at (R183, R195). -/
def recordWords (s : State) (p : Port) (w : Window) : List Word :=
  match w.space with
  | .lanes => laneWords s (laneOfRecord w.record)
  | .history l => historyWords s.staging (s.lane l).history[w.record]?
  | .book => bookWords s w.record
  | .order => orderWords s
  | .adjudication => suspectWords s.queue[w.record]?
  | .detectors =>
    if w.record < 8 then detectorWords (s.detector (laneOfRecord w.record) .line)
    else detectorWords (s.detector (laneOfRecord (w.record - 8)) .sector)
  | .exceptions => exceptionWords s (kindOfRecord w.record)
  | .staging => stagingWords s
  | .ports => portWords s p w

/-! ### Copies and steps (R185, R186) -/

/-- A copy of the record a window points at, with the race clock and station time of the copy (R186). -/
def snapshotOf (s : State) (p : Port) (w : Window) : Snapshot := ⟨recordWords s p w, s.heat.raceClock, s.now⟩

/-- The window is set and the record it points at copied into the port's snapshot (R184, R186). -/
def pointWindow (p : Port) (w : Window) (s : State) : State :=
  let copy := snapshotOf s p w
  s.modPort p fun x => { x with window := some w, snapshot := some copy }

/-- The word of a snapshot at an index; every window's word index lies within its record (R184, R185). -/
def Snapshot.at (x : Snapshot) (i : Nat) : Word := x.words[i]?.getD 0

/-- The window one word on: the next word, else word 0 of the next record, else word 0 of the first (R185). -/
def Window.next (w : Window) : Window :=
  if w.word + 1 < w.space.wordCount then { w with word := w.word + 1 }
  else if w.record + 1 < w.space.recordCount then { w with word := 0, record := w.record + 1 }
  else { w with word := 0, record := 0 }

/-- A step: within a record the snapshot stays; past its last word the record it lands in is copied (R185). -/
def stepWindow (p : Port) (w : Window) (s : State) : State :=
  if w.word + 1 < w.space.wordCount then s.modPort p fun x => { x with window := some w.next }
  else pointWindow p w.next s

/-! ### POINT, READ, WRITE (R184, R185, R187) -/

/-- The record index a POINT finds, or none (R184): by record index in every space, by sequence number in BOOK and
ADJUDICATION. -/
def pointRecord (s : State) (space : Space) (f : PointFields) : Option Nat :=
  if f.bySequence then
    match space with
    | .book => slotOf s.book f.seq
    | .adjudication => s.queue.findIdx? fun x => x.seq == f.seq
    | .lanes | .history _ | .order | .detectors | .exceptions | .staging | .ports => none
  else if f.record < space.recordCount then some f.record
  else none

/-- The window a POINT asks for, or the reason of its refusal (R184, R196). -/
def pointTarget (s : State) (f : PointFields) : Except Reason Window :=
  match modeOfCode f.modeCode with
  | none => .error .unknownRequest
  | some mode =>
    if f.noSpace then .error .noEntry
    else
      match spaceOfCode f.spaceCode with
      | none => .error .noEntry
      | some space =>
        match pointRecord s space f with
        | none => .error .noEntry
        | some record =>
          let word := if f.bySequence then 0 else f.word
          if word < space.wordCount then .ok ⟨space, record, word, mode⟩ else .error .noEntry

/-- POINT of a selector and a parameter (R184). -/
def requestPoint (p : Port) (selector : Byte) (parameter : Word) (s : State) : State × Reply :=
  match pointTarget s (pointFields selector parameter) with
  | .error r => refuse r s
  | .ok w => (pointWindow p w s, ⟨.done, (snapshotOf s p w).at w.word⟩)

/-- READ (R185). -/
def requestRead (p : Port) (s : State) : State × Reply :=
  match (s.ports.get p).window, (s.ports.get p).snapshot with
  | some w, some x => (if w.mode = .step then stepWindow p w s else s, ⟨.done, x.at w.word⟩)
  | _, _ => refuse .noEntry s

/-- The staging field a window's word addresses, if it is writable (R183, R187). -/
def Window.writable (w : Window) : Option StagingField :=
  if w.space = .staging then stagingFields[w.word]? else none

/-- A value written into the snapshot word at an index (R187). -/
def Snapshot.put (i : Nat) (v : Word) (x : Snapshot) : Snapshot := { x with words := x.words.set i v }

/-- A WRITE carried out: the field is stored with its effects, the snapshot word takes the value stored, and the window steps
in STEP and STEP_ON_WRITE (R187). -/
def carryWrite (p : Port) (w : Window) (f : StagingField) (value : Word) (s : State) : State × Reply :=
  let t := writeField f value s
  let stored := t.staging.read f
  let u := t.modPort p fun x => { x with snapshot := x.snapshot.map (Snapshot.put w.word stored) }
  (if w.mode = .steady then u else stepWindow p w u, ⟨.done, stored⟩)

/-- WRITE of a value, checked in the order of R187. -/
def requestWrite (p : Port) (value : Word) (s : State) : State × Reply :=
  match (s.ports.get p).window with
  | none => refuse .noEntry s
  | some w =>
    match w.writable with
    | none => refuse .readOnly s
    | some f => if writeAccepted s.phase f then carryWrite p w f value s else refuse .wrongPhase s

end Sys2Proof.Machine
end

