-- ==== Sys2Proof/WellFormed.lean ====
section
/-! DEFINITION. Which terms of `Instr` can stand for a command at all. The meanings do not rely on it: an ill-formed term
meets a condition that does not hold, and does nothing. -/

namespace Sys2Proof

/-- The sum of a frame's five bytes modulo 256 (section 10.2): 0 for a frame with a good check byte. -/
def Frame.sum (f : Frame) : Byte := f.code + f.selector + f.paramHigh + f.paramLow + f.check

/-- The code names one of the 28 requests (R196: "Codes 0 and 29 to 255 are refused with UNKNOWN_REQUEST"). -/
def isRequestCode (code : Byte) : Bool := decide (1 ≤ code.toNat) && decide (code.toNat ≤ 28)

/-- The operands of a command lie where its row lets them. -/
def Instr.wellFormed : Instr → Bool
  | .filteredLevelChange _ _ _ capture _ => decide (capture ≤ Config.clockCap)
  | .confirmWindowLapse slot => decide (slot < Config.bookSlots)
  | .frameCheck _ f => f.sum != 0
  | .unknownRequest _ code => !isRequestCode code
  | _ => true

end Sys2Proof
end

