-- ==== Sys2Proof/Machine/Ports.lean ====
section
/-! DEFINITION. The Station Ports (chapter 10): roles, the receive states, the taking of a completed frame and its response,
and the requests that the ports themselves own. -/

namespace Sys2Proof.Machine

/-! ### Roles (R181) -/

/-- A role permits the request of a code (R181, R196). -/
def Role.permits (r : Role) (code : Nat) : Bool :=
  match r with
  | .control => true
  | .marshal => [1, 2, 7, 11, 14, 23, 24, 25, 26, 28].contains code
  | .display => [1, 2, 23, 24, 25, 26, 28].contains code

/-! ### Bytes, gaps and errors (R176 to R178) -/

/-- The port notes the station time of a byte (R176). -/
def noteByte (p : Port) (s : State) : State := s.modPort p fun x => { x with lastByte := some s.now }

/-- The receive state changes. -/
def setReceive (p : Port) (r : Receive) (s : State) : State := s.modPort p fun x => { x with receive := r }

/-- Station time less the note of the port's last byte has reached 6 (R177). -/
def gapReached (s : State) (p : Port) : Bool :=
  match (s.ports.get p).lastByte with
  | some t => decide (Config.frameGapMs ≤ elapsed s.now t)
  | none => false

/-- A gap in RECEIVING is a timeout (R177). -/
def timeoutDue (s : State) (p : Port) : Bool :=
  match (s.ports.get p).receive with
  | .receiving _ => gapReached s p
  | .waiting | .answering | .discarding => false

/-- The line of a DISCARDING port has been quiet for 6 ms (R177). -/
def quietDue (s : State) (p : Port) : Bool :=
  match (s.ports.get p).receive with
  | .discarding => gapReached s p
  | .waiting | .receiving _ | .answering => false

/-- A timeout: the partial frame is discarded and a frame error counted (R177). -/
def takeTimeout (p : Port) (s : State) : State := frameError p (setReceive p .waiting s)

/-- A gap that has been reached is acted on before the next byte is taken (R177; log entry 28). -/
def settleGap (p : Port) (s : State) : State :=
  if timeoutDue s p then takeTimeout p s
  else if quietDue s p then setReceive p .waiting s
  else s

/-- A byte that arrives while the port is ANSWERING: discarded, one frame error, and the response will end in DISCARDING
(R178). -/
def takeOverrun (p : Port) (s : State) : State :=
  frameError p ((noteByte p s).modPort p fun x => { x with overrun := true })

/-- A byte with a missing stop bit (R177); while ANSWERING it is an overrun (R178). -/
def takeBadByte (p : Port) (s : State) : State :=
  let t := settleGap p s
  match (t.ports.get p).receive with
  | .answering => takeOverrun p t
  | .waiting | .receiving _ | .discarding => frameError p (setReceive p .discarding (noteByte p t))

/-! ### Answering (R176, R179, R190) -/

/-- The fifth byte is in: the port answers (R176). -/
def beginAnswer (p : Port) (s : State) : State :=
  (noteByte p s).modPort p fun x => { x with receive := .answering, overrun := false }

/-- The response is assembled and its sending begins; a refusal is counted by the REFUSALS counters of every port (R175,
R179, R190; log entry 13). -/
def respond (p : Port) (echo : Byte) (r : Reply) (s : State) : State :=
  let t := s.modPort p fun x => { x with response := some ⟨r.status, echo, r.data⟩, transmitEnable := true }
  match r.status with
  | .refused _ => countEvent .refusals t
  | .done | .merged | .already => t

/-- A request with a good check byte and a known code is checked for its role and taken by its owning block (R179). -/
def answer (p : Port) (code : Byte) (body : State → State × Reply) (s : State) : State :=
  let t := beginAnswer p s
  if (t.role p).permits code.toNat then
    let (u, r) := body t
    respond p code r u
  else respond p code ⟨.refused .role, 0⟩ t

/-- A frame whose code names no request (R179). -/
def answerUnknown (p : Port) (code : Byte) (s : State) : State :=
  respond p code ⟨.refused .unknownRequest, 0⟩ (beginAnswer p s)

/-- A frame whose check fails: FRAME_CHECK, with a frame error of the port (R179, R190). -/
def answerBadCheck (p : Port) (code : Byte) (s : State) : State :=
  respond p code ⟨.refused .frameCheck, 0⟩ (frameError p (beginAnswer p s))

/-- A whole frame arrives at a port: taken in WAITING and RECEIVING, five overrun bytes while ANSWERING, dropped in
DISCARDING (R176 to R178; log entry 11). -/
def onFrame (p : Port) (take : State → State) (s : State) : State :=
  let t := settleGap p s
  match (t.ports.get p).receive with
  | .waiting | .receiving _ => take t
  | .answering => takeOverrun p (takeOverrun p (takeOverrun p (takeOverrun p (takeOverrun p t))))
  | .discarding => noteByte p t

/-- A request command: one completed frame at a port with a good check byte and the code of the request (R179, R196). -/
def request (p : Port) (code : Byte) (body : State → State × Reply) (s : State) : State := onFrame p (answer p code body) s

/-! ### The end of a response (R176, R178, R191) -/

/-- A response has been sent: the transmit enable drops, and the port waits, or discards where bytes overran (R175, R176,
R178). -/
def endResponse (p : Port) (s : State) : State :=
  s.modPort p fun x =>
    { x with
      receive := if x.overrun then .discarding else .waiting
      overrun := false
      response := none
      transmitEnable := false }

/-- A response is being sent on a port. -/
def answering (s : State) (p : Port) : Bool :=
  match (s.ports.get p).receive with
  | .answering => true
  | .waiting | .receiving _ | .discarding => false

/-- The last stop bit of a response is out. The one of a RESET PART response, on the CONTROL port, brings its reset (R191;
log entry 14). -/
def responseSent (p : Port) (s : State) : State :=
  if answering s p then
    match p, s.pendingReset with
    | .p0, some c => takeReset c s
    | _, _ => endResponse p s
  else s

/-! ### Requests of the ports (R188 to R192) -/

/-- READ ALERTS (R188). -/
def requestReadAlerts (p : Port) (s : State) : State × Reply :=
  (s.modPort p fun x => { x with alerts := {} }, ⟨.done, (s.ports.get p).alerts.toWord⟩)

/-- SET ALERT MASK of a set of items (R189). -/
def requestSetAlertMask (p : Port) (items : Word) (s : State) : State × Reply :=
  (s.modPort p fun x => { x with alertMask := AlertSet.ofWord items }, ⟨.done, (AlertSet.ofWord items).toWord⟩)

/-- SELECT COUNTER of a class code (R190). -/
def requestSelectCounter (p : Port) (cls : Word) (s : State) : State × Reply :=
  match classOfCode cls.toNat with
  | none => refuse .unknownRequest s
  | some c => done c.code (s.modPort p fun x => { x with counterClass := c, counter := 0 })

/-- READ COUNTER (R190). -/
def requestReadCounter (p : Port) (s : State) : State × Reply :=
  (s.modPort p fun x => { x with counter := 0 }, ⟨.done, dataOf (s.ports.get p).counter⟩)

/-- IDENTIFY (R192, R197): the part code in the high byte, the die revision in the low byte. -/
def requestIdentify (s : State) : State × Reply := (s, ⟨.done, Config.partCode ++ Config.dieRevision⟩)

/-- The code of a RESET PART choice (R196, R197). -/
def ResetChoice.code : ResetChoice → Nat
  | .clear => 1 | .keep => 2

/-- RESET PART (R191): the choice waits for the end of its response. -/
def requestResetPart (c : ResetChoice) (s : State) : State × Reply := done c.code { s with pendingReset := some c }

/-! ### Frames byte by byte (R176, R179, R196) -/

/-- DETECTOR RESTORE of a selector and a parameter (R196). -/
def requestRestore (lane : Byte) (kind : Word) (s : State) : State × Reply :=
  match detKindOfCode kind.toNat with
  | none => refuse .unknownRequest s
  | some .line => requestRestoreLine lane s
  | some .sector => requestRestoreSector lane s

/-- RESET PART of a parameter (R191, R196). -/
def requestReset (parameter : Word) (s : State) : State × Reply :=
  match resetChoiceOfCode parameter.toNat with
  | none => refuse .unknownRequest s
  | some c => requestResetPart c s

/-- What the owning block does with a frame of each request code (R196). -/
def frameRequest (p : Port) (f : Frame) : Option (State → State × Reply) :=
  let v := frameParameter f
  match f.code.toNat with
  | 1 => some (requestPoint p f.selector v)
  | 2 => some (requestRead p)
  | 3 => some (requestWrite p v)
  | 4 => some requestStageHeat
  | 5 => some requestStart
  | 6 => some requestRecallStart
  | 7 => some (requestTrackCall p)
  | 8 => some requestResume
  | 9 => some requestEndHeat
  | 10 => some requestClearHeat
  | 11 => some (requestCall p f.selector f.paramHigh f.paramLow)
  | 12 => some (requestConfirm v)
  | 13 => some (requestWaive v)
  | 14 => some (requestDeslot p f.selector)
  | 15 => some requestClearBook
  | 16 => some (requestAccept v)
  | 17 => some (requestReject v)
  | 18 => some (requestDetectorOut f.selector v)
  | 19 => some (requestRestore f.selector v)
  | 20 => some (requestLaneRestore f.selector)
  | 21 => some (requestSetExceptionMask v)
  | 22 => some (requestClearExceptions v)
  | 23 => some (requestReadAlerts p)
  | 24 => some (requestSetAlertMask p v)
  | 25 => some (requestSelectCounter p v)
  | 26 => some (requestReadCounter p)
  | 27 => some (requestReset v)
  | 28 => some requestIdentify
  | _ => none

/-- A completed frame is checked and taken in the order of R179. -/
def takeFrame (p : Port) (f : Frame) (s : State) : State :=
  if f.sum != 0 then answerBadCheck p f.code s
  else
    match frameRequest p f with
    | none => answerUnknown p f.code s
    | some body => answer p f.code body s

/-- A byte with a good stop bit: it begins a frame in WAITING, is added in RECEIVING, the fifth completing the frame, is an
overrun in ANSWERING and dropped in DISCARDING (R176 to R178). -/
def takeByte (p : Port) (b : Byte) (s : State) : State :=
  let t := settleGap p s
  match (t.ports.get p).receive with
  | .waiting => setReceive p (.receiving [b]) (noteByte p t)
  | .receiving [c, x, h, l] => takeFrame p ⟨c, x, h, l, b⟩ t
  | .receiving held => setReceive p (.receiving (held ++ [b])) (noteByte p t)
  | .answering => takeOverrun p t
  | .discarding => noteByte p t

end Sys2Proof.Machine
end

