-- ==== Sys2Proof/Machine/Clock.lean ====
section
/-! DEFINITION. One 125 ns step of the part's own time bases (log entries 1 to 3): the output timer, the race clock and the
sample instants, the milliseconds of station time, and the timer and input commands that fall due. -/

namespace Sys2Proof.Machine

/-! ### The output timer (section 8.2) -/

/-- A lane's off-times after one more step (R148). -/
def PowerLane.step (p : PowerLane) : PowerLane :=
  { p with
    driveOff := if p.drive then 0 else min Config.maxDeadSteps (p.driveOff + 1)
    brakeOff := if p.brake then 0 else min Config.maxDeadSteps (p.brakeOff + 1) }

/-- One step of the output timer: the place in the PWM period, and every lane's off-times (R147, R148). -/
def outputStep (s : State) : State :=
  { s with
    clock := { s.clock with pwmElapsed := s.clock.pwmElapsed + 1, pwmLeft := s.clock.pwmLeft - 1 }
    power := s.power.mapLane fun _ p => p.step }

/-! ### The race clock (R43, R44) -/

/-- The race clock runs in a phase under a policy (R43). -/
def clockRuns (ph : Phase) (policy : ClockPolicy) : Bool :=
  match ph with
  | .green | .finishing | .settling => true
  | .hold | .resuming => policy == .run
  | .idle | .staged | .countdown | .ended => false

/-- The race clock after one more tick, stopping at its cap (R43). -/
def tickRaceClock (s : State) : State :=
  if clockRuns s.phase s.staging.clockUnderCall then
    s.modHeat fun h => { h with raceClock := min Config.clockCap (h.raceClock + 1) }
  else s

/-! ### Station time (R42) -/

/-- A lane counts drive-on time in a power state: FULL or CAPPED (R154, R155). -/
def PowerLane.millisecond (ps : PowerState) (p : PowerLane) : PowerLane :=
  if ps.drives then
    { p with
      driveOnRun := min Config.cleanRunMs (p.driveOnRun + 1)
      retryWatch := if p.watchStarted then p.retryWatch.map (· - 1) else p.retryWatch }
  else p

/-- A serving stop-go's progress falls by one, unless the lane is HELD (R134). The step that takes it to 0 is the command
STOP_GO_END (log entry 23). -/
def countStopGo (s : State) (l : Lane) : State :=
  match servingStop s l with
  | none => s
  | some (_, k) =>
    if powerState s l = .held then s
    else s.modEntry k fun e => { e with progress := e.progress.map fun n => if 2 ≤ n then n - 1 else n }

/-- One more millisecond of station time (R42, R134, R154, R155). -/
def millisecond (s : State) : State :=
  let t := { s with clock := { s.clock with stationTime := s.clock.stationTime + 1, msTicks := 0 } }
  Lane.all.foldl countStopGo
    { t with power := t.power.mapLane fun l p => p.millisecond (powerState t l) }

/-- The stop-gos that the next millisecond takes to 0. -/
def stopGosEnding (s : State) : List Instr :=
  (Lane.all.filter fun l => stopGoDue s l).map Instr.stopGoEnd

/-! ### Sampling (R1, R151, R159) -/

/-- The run length of the detector filter (R1). -/
def runLength (st : Staging) : Nat := if st.detectorFilter then 4 else 1

/-- A detector record after a sample at a race-clock value and a station time (R1, R2, R4). The first sample after a reset
sets the filtered level directly. -/
def Detector.sample (first level : Bool) (raceClock : Nat) (now : StationTime) (d : Detector) : Detector :=
  if first then { d with broken := level, runCount := 0, brokenStart := if level then some now else none }
  else if level == d.broken then { d with runCount := 0 }
  else if d.runCount = 0 then { d with runCount := 1, runRaceClock := raceClock, runStationTime := now }
  else { d with runCount := d.runCount + 1 }

/-- A lane's overcurrent run after a sample, counted while the drive is on. A deasserted sample that finds the filtered level
asserted is the command OVERCURRENT_FILTERED_LEVEL_DEASSERTED (R151). -/
def PowerLane.sample (level : Bool) (p : PowerLane) : PowerLane :=
  if !p.drive then p
  else if level then { p with overcurrentRun := p.overcurrentRun + 1 }
  else if p.overcurrent then p
  else { p with overcurrentRun := 0 }

/-- The supply-low filter after a sample (R159). -/
def SupplyFilter.sample (first level : Bool) (f : SupplyFilter) : SupplyFilter :=
  if first then ⟨level, 0⟩
  else if level == f.low then { f with runCount := 0 }
  else { f with runCount := f.runCount + 1 }

/-- A sample of every input (R1, R151, R159). -/
def sampleInputs (s : State) : State :=
  let first := !s.clock.sampled
  let c := s.heat.raceClock
  { s with
    clock := { s.clock with sampled := true }
    detectors :=
      { line := s.detectors.line.mapLane fun l d => d.sample first (s.pins.line.get l) c s.now
        sector := s.detectors.sector.mapLane fun l d => d.sample first (s.pins.sector.get l) c s.now }
    power := s.power.mapLane fun l p => p.sample (s.pins.overcurrent.get l)
    supply := s.supply.sample first s.pins.supplyLow }

/-- The level change of a detector whose run has reached the run length (R1, R2). -/
def detectorEvent (s : State) (k : DetKind) (l : Lane) : List Instr :=
  let d := s.detector l k
  if runLength s.staging ≤ d.runCount then
    [.filteredLevelChange l k (!d.broken) d.runRaceClock d.runStationTime]
  else []

/-- The overcurrent command of a lane whose counted sample makes one (R151). -/
def overcurrentEvent (s : State) (l : Lane) : List Instr :=
  let p := s.power.get l
  if !p.drive then []
  else if s.pins.overcurrent.get l then
    if Config.overcurrentRun ≤ p.overcurrentRun then [.overcurrentTrip l] else []
  else if p.overcurrent then [.overcurrentFilteredLevelDeasserted l]
  else []

/-- The supply-low command whose run has reached 100 samples (R159). -/
def supplyEvent (s : State) : List Instr :=
  if Config.supplyRun ≤ s.supply.runCount then [if s.supply.low then .supplyLowRecovery else .supplyLowEdge] else []

/-- The input commands of a sample instant. -/
def inputEvents (s : State) : List Instr :=
  Lane.all.flatMap (detectorEvent s .line) ++ Lane.all.flatMap (detectorEvent s .sector) ++
    Lane.all.flatMap (overcurrentEvent s) ++ supplyEvent s

/-! ### Timers that fall due -/

/-- A command that is due. -/
def dueIf (due : Bool) (c : Instr) : List Instr := if due then [c] else []

/-- The commands of the lanes for which a timer is due. -/
def dueLanes (due : Lane → Bool) (c : Lane → Instr) : List Instr := (Lane.all.filter due).map c

/-- The four ports in ascending number. -/
def Ports.numbers : List Port := [.p0, .p1, .p2, .p3]

/-- The commands of the race clock due now: heat time expiry, settle event and clock cap (R55, R56, R59, R61). They join the
queue ahead of every other command of their instant. An expiry thus comes before a track call that an input of the same tick
makes, and a call that is taken first finds the race clock short of T_e, as R55 has it (log entry 2). -/
def raceClockEvents (s : State) : List Instr :=
  dueIf (freezeDue s) .heatTimeExpiryFreeze ++ dueIf (runToLineDue s) .heatTimeExpiryRunToLine ++
  dueIf (settleDue s) .settleEvent ++ dueIf (capDue s) .clockCap

/-- The timer commands due now, but for STOP_GO_END and those of the race clock, in the model's fixed order (log entry 2). -/
def timerEvents (s : State) : List Instr :=
  dueIf (redLampDue s) .redLampLit ++ dueIf (greenDue s) .greenEvent ++
  dueIf (resumeLampDue s) .resumeLampOut ++ dueIf (resumeEndDue s) .resumeCountdownEnd ++ dueIf (graceDue s) .graceRunOut ++
  dueLanes (fun l => stuckDue s l .line) (.stuckWatchExpiry · .line) ++
  dueLanes (fun l => stuckDue s l .sector) (.stuckWatchExpiry · .sector) ++
  dueIf (deadlineDue s) .adjudicationDeadline ++
  ((List.range Config.bookSlots).filter (lapseDue s)).map Instr.confirmWindowLapse ++
  dueLanes (retryDelayDue s) .retryDelayEnd ++ dueLanes (retryWatchDue s) .retryWatchEnd ++
  dueLanes (cleanRunDue s) .driveOnRunComplete ++
  dueIf (greenFlashDue s) .greenLampFlash ++ dueLanes (laneLampDue s) .laneLampFlash ++
  (Ports.numbers.filter (timeoutDue s)).map Instr.timeout ++
  (Ports.numbers.filter (quietDue s)).map Instr.discardingQuietEnd ++
  dueLanes (onTimeDue s) .onTimeEnd ++ dueIf (periodDue s) .pwmPeriodStart ++ dueLanes (deadTimeDue s) .deadTimeEnd

/-! ### The step of time -/

/-- A sample instant that is not at a millisecond: the race clock, then the samples. -/
def sampleInstant (s : State) : State × List Instr :=
  let t := sampleInputs (tickRaceClock { s with clock := { s.clock with tickSteps := 0, msTicks := s.clock.msTicks + 1 } })
  (t, inputEvents t)

/-- A sample instant at which station time advances as well. -/
def millisecondInstant (s : State) : State × List Instr :=
  let ending := stopGosEnding s
  let t := sampleInputs (tickRaceClock (millisecond { s with clock := { s.clock with tickSteps := 0 } }))
  (t, inputEvents t ++ ending)

/-- Time advances by one 125 ns step: the state after it, and the input commands and stop-go ends it brings. -/
def advance (s : State) : State × List Instr :=
  let t := outputStep s
  if t.clock.tickSteps + 1 < Config.stepsPerTick then
    ({ t with clock := { t.clock with tickSteps := t.clock.tickSteps + 1 } }, [])
  else if t.clock.msTicks + 1 < Config.ticksPerMs then sampleInstant t
  else millisecondInstant t

/-- What the part does with no command waiting: one 125 ns step of time, the commands that fall due joining the queue, those of
the race clock first (log entries 1 and 2). While the reset pin is asserted it is held as it is (R174). -/
def tick (s : State) : State :=
  if s.pins.reset then s
  else
    let (t, events) := advance s
    { t with pending := t.pending ++ raceClockEvents t ++ events ++ timerEvents t }

end Sys2Proof.Machine
end

