-- ==== Sys2Proof/Machine/DetectorCommands.lean ====
section
/-! DEFINITION. The meanings of the detectors' events and requests (chapter 1) and of the adjudication of suspects (chapter 2). -/

namespace Sys2Proof.Machine

/-- FILTERED_LEVEL_CHANGE (R1 to R4): the level change, and the crossing it may be. -/
def execFilteredLevelChange (l : Lane) (k : DetKind) (broken : Bool) (capture : Nat) (brokenAt : StationTime) (s : State) : Host.Outcome State Fault Refusal :=
  whileRunning s (onlyIf (levelChangeDue s l k broken capture)
    fun t => settle (levelChange l k broken capture brokenAt t))

/-- STUCK_WATCH_EXPIRY (R7). -/
def execStuckWatchExpiry (l : Lane) (k : DetKind) (s : State) : Host.Outcome State Fault Refusal :=
  whileRunning s (onlyIf (stuckDue s l k) (expireWatch l k))

/-- DETECTOR_OUT (R13, R14). -/
def execDetectorOut (p : Port) (lane : Byte) (kind : Word) (s : State) : Host.Outcome State Fault Refusal :=
  whileRunning s (request p 18 (requestDetectorOut lane kind))

/-- DETECTOR_RESTORE_LINE (R13, R15). -/
def execDetectorRestoreLine (p : Port) (lane : Byte) (s : State) : Host.Outcome State Fault Refusal :=
  whileRunning s (request p 19 (requestRestoreLine lane))

/-- DETECTOR_RESTORE_SECTOR (R13, R16). -/
def execDetectorRestoreSector (p : Port) (lane : Byte) (s : State) : Host.Outcome State Fault Refusal :=
  whileRunning s (request p 19 (requestRestoreSector lane))

/-- ADJUDICATION_DEADLINE (R34). -/
def execAdjudicationDeadline (s : State) : Host.Outcome State Fault Refusal :=
  whileRunning s (onlyIf (deadlineDue s) fun t => settle (resolveOldest t))

/-- ACCEPT (R35). -/
def execAccept (p : Port) (seq : Word) (s : State) : Host.Outcome State Fault Refusal :=
  whileRunning s (request p 16 (requestAccept seq))

/-- REJECT (R35). -/
def execReject (p : Port) (seq : Word) (s : State) : Host.Outcome State Fault Refusal :=
  whileRunning s (request p 17 (requestReject seq))

end Sys2Proof.Machine
end

