-- ==== Sys2Proof/Machine/HeatCommands.lean ====
section
/-! DEFINITION. The meanings of the Heat Controller's requests and timers (chapter 3). -/

namespace Sys2Proof.Machine

/-- STAGE_HEAT (R45). -/
def execStageHeat (p : Port) (s : State) : Host.Outcome State Fault Refusal :=
  whileRunning s (request p 4 requestStageHeat)

/-- CLEAR_HEAT (R46). -/
def execClearHeat (p : Port) (s : State) : Host.Outcome State Fault Refusal :=
  whileRunning s (request p 10 requestClearHeat)

/-- START (R47). -/
def execStart (p : Port) (s : State) : Host.Outcome State Fault Refusal :=
  whileRunning s (request p 5 requestStart)

/-- RED_LAMP_LIT (R47). -/
def execRedLampLit (s : State) : Host.Outcome State Fault Refusal :=
  whileRunning s (onlyIf (redLampDue s) lightRed)

/-- GREEN_EVENT (R48). -/
def execGreenEvent (s : State) : Host.Outcome State Fault Refusal :=
  whileRunning s (onlyIf (greenDue s) greenEvent)

/-- RECALL_START (R49). -/
def execRecallStart (p : Port) (s : State) : Host.Outcome State Fault Refusal :=
  whileRunning s (request p 6 requestRecallStart)

/-- TRACK_CALL (R51). -/
def execTrackCall (p : Port) (s : State) : Host.Outcome State Fault Refusal :=
  whileRunning s (request p 7 (requestTrackCall p))

/-- RESUME (R54). -/
def execResume (p : Port) (s : State) : Host.Outcome State Fault Refusal :=
  whileRunning s (request p 8 requestResume)

/-- RESUME_LAMP_OUT (R54). -/
def execResumeLampOut (s : State) : Host.Outcome State Fault Refusal :=
  whileRunning s (onlyIf (resumeLampDue s) putOutRed)

/-- RESUME_COUNTDOWN_END (R54). -/
def execResumeCountdownEnd (s : State) : Host.Outcome State Fault Refusal :=
  whileRunning s (onlyIf (resumeEndDue s) fun t => settle (endResume t))

/-- HEAT_TIME_EXPIRY_FREEZE (R55). -/
def execHeatTimeExpiryFreeze (s : State) : Host.Outcome State Fault Refusal :=
  whileRunning s (onlyIf (freezeDue s) freezeExpiry)

/-- HEAT_TIME_EXPIRY_RUN_TO_LINE (R56). -/
def execHeatTimeExpiryRunToLine (s : State) : Host.Outcome State Fault Refusal :=
  whileRunning s (onlyIf (runToLineDue s) runToLineExpiry)

/-- GRACE_RUN_OUT: the heat ends GRACE (R58). -/
def execGraceRunOut (s : State) : Host.Outcome State Fault Refusal :=
  whileRunning s (onlyIf (graceDue s) fun t => settle (enterEnded .grace false [] t))

/-- SETTLE_EVENT: the heat ends SETTLED, with its fractions (R59). -/
def execSettleEvent (s : State) : Host.Outcome State Fault Refusal :=
  whileRunning s (onlyIf (settleDue s) fun t => settle (enterEnded .settled true [] t))

/-- END_HEAT (R60). -/
def execEndHeat (p : Port) (s : State) : Host.Outcome State Fault Refusal :=
  whileRunning s (request p 9 requestEndHeat)

/-- CLOCK_CAP: the heat ends CAPPED_CLOCK (R61). -/
def execClockCap (s : State) : Host.Outcome State Fault Refusal :=
  whileRunning s (onlyIf (capDue s) fun t => settle (enterEnded .cappedClock false [] t))

/-- GREEN_LAMP_FLASH (R63). -/
def execGreenLampFlash (s : State) : Host.Outcome State Fault Refusal :=
  whileRunning s (onlyIf (greenFlashDue s) flashGreen)

end Sys2Proof.Machine
end

