-- ==== Sys2Proof/Machine/PenaltyCommands.lean ====
section
/-! DEFINITION. The meanings of the Penalty Book's requests and timers (chapter 6) and of the Penalty Server's (chapter 7). -/

namespace Sys2Proof.Machine

/-- CALL (R109, R110). -/
def execCall (p : Port) (lane : Byte) (kind : Byte) (amount : Byte) (s : State) : Host.Outcome State Fault Refusal :=
  whileRunning s (request p 11 (requestCall p lane kind amount))

/-- CONFIRM (R115). -/
def execConfirm (p : Port) (seq : Word) (s : State) : Host.Outcome State Fault Refusal :=
  whileRunning s (request p 12 (requestConfirm seq))

/-- CONFIRM_WINDOW_LAPSE (R114). -/
def execConfirmWindowLapse (slot : Nat) (s : State) : Host.Outcome State Fault Refusal :=
  whileRunning s (onlyIf (lapseDue s slot) (lapse slot))

/-- WAIVE (R121, R138). -/
def execWaive (p : Port) (seq : Word) (s : State) : Host.Outcome State Fault Refusal :=
  whileRunning s (request p 13 (requestWaive seq))

/-- DESLOT (R124). -/
def execDeslot (p : Port) (lane : Byte) (s : State) : Host.Outcome State Fault Refusal :=
  whileRunning s (request p 14 (requestDeslot p lane))

/-- CLEAR_BOOK (R127). -/
def execClearBook (p : Port) (s : State) : Host.Outcome State Fault Refusal :=
  whileRunning s (request p 15 requestClearBook)

/-- STOP_GO_END (R135). -/
def execStopGoEnd (l : Lane) (s : State) : Host.Outcome State Fault Refusal :=
  whileRunning s (onlyIf (stopGoDue s l) (endStopGo l))

/-- LANE_LAMP_FLASH (R144). -/
def execLaneLampFlash (l : Lane) (s : State) : Host.Outcome State Fault Refusal :=
  whileRunning s (onlyIf (laneLampDue s l) (flashLane l))

end Sys2Proof.Machine
end

