-- ==== Sys2Proof/Machine/PortCommands.lean ====
section
/-! DEFINITION. The meanings of the window, alert and counter requests, and of the bytes and errors on a station line (chapter 10). -/

namespace Sys2Proof.Machine

/-- POINT (R184). -/
def execPoint (p : Port) (selector : Byte) (parameter : Word) (s : State) : Host.Outcome State Fault Refusal :=
  whileRunning s (request p 1 (requestPoint p selector parameter))

/-- READ (R185). -/
def execRead (p : Port) (s : State) : Host.Outcome State Fault Refusal :=
  whileRunning s (request p 2 (requestRead p))

/-- WRITE (R187). -/
def execWrite (p : Port) (value : Word) (s : State) : Host.Outcome State Fault Refusal :=
  whileRunning s (request p 3 (requestWrite p value))

/-- READ_ALERTS (R188). -/
def execReadAlerts (p : Port) (s : State) : Host.Outcome State Fault Refusal :=
  whileRunning s (request p 23 (requestReadAlerts p))

/-- SET_ALERT_MASK (R189). -/
def execSetAlertMask (p : Port) (items : Word) (s : State) : Host.Outcome State Fault Refusal :=
  whileRunning s (request p 24 (requestSetAlertMask p items))

/-- SELECT_COUNTER (R190). -/
def execSelectCounter (p : Port) (cls : Word) (s : State) : Host.Outcome State Fault Refusal :=
  whileRunning s (request p 25 (requestSelectCounter p cls))

/-- READ_COUNTER (R190). -/
def execReadCounter (p : Port) (s : State) : Host.Outcome State Fault Refusal :=
  whileRunning s (request p 26 (requestReadCounter p))

/-- IDENTIFY (R192). -/
def execIdentify (p : Port) (s : State) : Host.Outcome State Fault Refusal :=
  whileRunning s (request p 28 requestIdentify)

/-- FRAME_CHECK (R179): a completed frame whose five bytes do not sum to 0. -/
def execFrameCheck (p : Port) (f : Frame) (s : State) : Host.Outcome State Fault Refusal :=
  whileRunning s (onlyIf (f.sum != 0) (onFrame p (answerBadCheck p f.code)))

/-- UNKNOWN_REQUEST (R179, R196): a completed frame whose code names no request. -/
def execUnknownRequest (p : Port) (code : Byte) (s : State) : Host.Outcome State Fault Refusal :=
  whileRunning s (onlyIf (!isRequestCode code) (onFrame p (answerUnknown p code)))

/-- FRAMING_ERROR (R177); a bad byte while ANSWERING is an overrun (R178). -/
def execFramingError (p : Port) (s : State) : Host.Outcome State Fault Refusal :=
  whileRunning s (takeBadByte p)

/-- TIMEOUT (R177). -/
def execTimeout (p : Port) (s : State) : Host.Outcome State Fault Refusal :=
  whileRunning s (onlyIf (timeoutDue s p) (takeTimeout p))

/-- DISCARDING_QUIET_END (R177). -/
def execDiscardingQuietEnd (p : Port) (s : State) : Host.Outcome State Fault Refusal :=
  whileRunning s (onlyIf (quietDue s p) (setReceive p .waiting))

/-- OVERRUN (R178). -/
def execOverrun (p : Port) (s : State) : Host.Outcome State Fault Refusal :=
  whileRunning s (onlyIf (answering s p) (takeOverrun p))

/-- RESPONSE_SENT (R176, R178). -/
def execResponseSent (p : Port) (s : State) : Host.Outcome State Fault Refusal :=
  whileRunning s (responseSent p)

/-- BYTE_RECEIVED (R176 to R179). -/
def execByteReceived (p : Port) (b : Byte) (s : State) : Host.Outcome State Fault Refusal :=
  whileRunning s (takeByte p b)

end Sys2Proof.Machine
end

