-- ==== Sys2Proof/Machine/PowerCommands.lean ====
section
/-! DEFINITION. The meanings of the Lane Power Stage's timers, inputs and request (chapter 8) and of the Exception Unit's requests (chapter 9). -/

namespace Sys2Proof.Machine

/-! ### The inputs as their samples found them (log entry 5) -/

/-- A lane's overcurrent input at a level. -/
def State.withOvercurrentPin (s : State) (l : Lane) (level : Bool) : State :=
  { s with pins := { s.pins with overcurrent := s.pins.overcurrent.set l level } }

/-- The track-supply-low input at a level, accepted by its filter (R159). -/
def State.withSupply (s : State) (low : Bool) : State :=
  { s with pins := { s.pins with supplyLow := low }, supply := ⟨low, 0⟩ }

/-- The drive of a lane is on, so that a sample of its overcurrent input counts (R151). -/
def driveOn (s : State) (l : Lane) : Bool := (s.power.get l).drive

/-- A counted sample finds the input deasserted while its filtered level is asserted (R151). -/
def deassertDue (s : State) (l : Lane) : Bool := driveOn s l && (s.power.get l).overcurrent

/-- The overcurrent filtered level becomes deasserted and the run ends (R151). -/
def deassertOvercurrent (l : Lane) (s : State) : State :=
  (s.withOvercurrentPin l false).modPower l fun p => { p with overcurrent := false, overcurrentRun := 0 }

/-- The phases in which a masked asserting edge of the supply-low input calls the track (R160). -/
def Phase.supplyCalls : Phase → Bool
  | .green | .resuming | .finishing => true
  | .idle | .staged | .countdown | .hold | .settling | .ended => false

/-- An asserting edge of the supply-low input: SUPPLY is raised, and with SUPPLY masked the track is called in the phases
that let it (R159, R160). -/
def supplyEdge (s : State) : State :=
  let t := raise .supply none none .low (s.withSupply true)
  if masked .supply s && s.phase.supplyCalls then settle (takeTrackCall .supply t).1 else t

/-! ### The meanings -/

/-- PWM_PERIOD_START (R147 to R149). -/
def execPwmPeriodStart (s : State) : Host.Outcome State Fault Refusal :=
  whileRunning s (onlyIf (periodDue s) periodStart)

/-- ON_TIME_END (R149). -/
def execOnTimeEnd (l : Lane) (s : State) : Host.Outcome State Fault Refusal :=
  whileRunning s (onlyIf (onTimeDue s l) (endOnTime l))

/-- DEAD_TIME_END (R148). -/
def execDeadTimeEnd (l : Lane) (s : State) : Host.Outcome State Fault Refusal :=
  whileRunning s (onlyIf (deadTimeDue s l) (brakeOn l))

/-- OVERCURRENT_TRIP (R151, R152). -/
def execOvercurrentTrip (l : Lane) (s : State) : Host.Outcome State Fault Refusal :=
  whileRunning s (onlyIf (driveOn s l) fun t => settle (trip l (t.withOvercurrentPin l true)))

/-- OVERCURRENT_FILTERED_LEVEL_DEASSERTED (R151). -/
def execOvercurrentFilteredLevelDeasserted (l : Lane) (s : State) : Host.Outcome State Fault Refusal :=
  whileRunning s (onlyIf (deassertDue s l) (deassertOvercurrent l))

/-- RETRY_DELAY_END (R153). -/
def execRetryDelayEnd (l : Lane) (s : State) : Host.Outcome State Fault Refusal :=
  whileRunning s (onlyIf (retryDelayDue s l) fun t => settle (endRetryDelay l t))

/-- RETRY_WATCH_END (R154). -/
def execRetryWatchEnd (l : Lane) (s : State) : Host.Outcome State Fault Refusal :=
  whileRunning s (onlyIf (retryWatchDue s l) (endRetryWatch l))

/-- DRIVE_ON_RUN_COMPLETE (R155). -/
def execDriveOnRunComplete (l : Lane) (s : State) : Host.Outcome State Fault Refusal :=
  whileRunning s (onlyIf (cleanRunDue s l) (endCleanRun l))

/-- LANE_RESTORE (R157). -/
def execLaneRestore (p : Port) (lane : Byte) (s : State) : Host.Outcome State Fault Refusal :=
  whileRunning s (request p 20 (requestLaneRestore lane))

/-- SUPPLY_LOW_EDGE (R159, R160). -/
def execSupplyLowEdge (s : State) : Host.Outcome State Fault Refusal :=
  whileRunning s (onlyIf (!s.supply.low) supplyEdge)

/-- SUPPLY_LOW_RECOVERY (R159). -/
def execSupplyLowRecovery (s : State) : Host.Outcome State Fault Refusal :=
  whileRunning s (onlyIf (s.supply.low) fun t => t.withSupply false)

/-- SET_EXCEPTION_MASK (R168, R169). -/
def execSetExceptionMask (p : Port) (kinds : Word) (s : State) : Host.Outcome State Fault Refusal :=
  whileRunning s (request p 21 (requestSetExceptionMask kinds))

/-- CLEAR_EXCEPTIONS (R170). -/
def execClearExceptions (p : Port) (kinds : Word) (s : State) : Host.Outcome State Fault Refusal :=
  whileRunning s (request p 22 (requestClearExceptions kinds))

end Sys2Proof.Machine
end

