-- ==== Sys2Proof/Machine/ResetCommands.lean ====
section
/-! DEFINITION. The meanings of the resets (section 5.6 of the scope, R64, R174, R191). -/

namespace Sys2Proof.Machine

/-- POWER_ON (R64, R174): it acts whatever the level of the reset pin. -/
def execPowerOn (straps : Straps) (s : State) : Host.Outcome State Fault Refusal := .next (powerOn straps s)

/-- RESET_PIN (R64, R174): the pin is asserted. -/
def execResetPin (s : State) : Host.Outcome State Fault Refusal := .next (assertReset s)

/-- RESET_PIN_RELEASE (R174): it acts where the pin is asserted. -/
def execResetPinRelease (straps : Straps) (s : State) : Host.Outcome State Fault Refusal :=
  .next (onlyIf s.pins.reset (releaseReset straps) s)

/-- RESET_PART_CLEAR (R191). -/
def execResetPartClear (p : Port) (s : State) : Host.Outcome State Fault Refusal :=
  whileRunning s (request p 27 (requestResetPart .clear))

/-- RESET_PART_KEEP (R191). -/
def execResetPartKeep (p : Port) (s : State) : Host.Outcome State Fault Refusal :=
  whileRunning s (request p 27 (requestResetPart .keep))

/-- The reset that a RESET PART request still has to take, if any (R191). -/
def resetPending (s : State) : State :=
  match s.pendingReset with
  | some c => takeReset c s
  | none => s

/-- RESET_PART_TAKEN (R191). -/
def execResetPartTaken (s : State) : Host.Outcome State Fault Refusal :=
  whileRunning s resetPending

end Sys2Proof.Machine
end

