-- ==== Sys2Proof/Machine/Dispatch.lean ====
section
/-! DEFINITION. The meaning of every command: one arm per constructor of `Instr`. -/

namespace Sys2Proof.Machine

def exec (i : Instr) (s : State) : Host.Outcome State Fault Refusal :=
  match i with
  | .powerOn straps => Sys2Proof.Machine.execPowerOn straps s
  | .resetPin => Sys2Proof.Machine.execResetPin s
  | .resetPinRelease straps => Sys2Proof.Machine.execResetPinRelease straps s
  | .resetPartClear p => Sys2Proof.Machine.execResetPartClear p s
  | .resetPartKeep p => Sys2Proof.Machine.execResetPartKeep p s
  | .resetPartTaken => Sys2Proof.Machine.execResetPartTaken s
  | .stageHeat p => Sys2Proof.Machine.execStageHeat p s
  | .clearHeat p => Sys2Proof.Machine.execClearHeat p s
  | .start p => Sys2Proof.Machine.execStart p s
  | .redLampLit => Sys2Proof.Machine.execRedLampLit s
  | .greenEvent => Sys2Proof.Machine.execGreenEvent s
  | .recallStart p => Sys2Proof.Machine.execRecallStart p s
  | .trackCall p => Sys2Proof.Machine.execTrackCall p s
  | .resume p => Sys2Proof.Machine.execResume p s
  | .resumeLampOut => Sys2Proof.Machine.execResumeLampOut s
  | .resumeCountdownEnd => Sys2Proof.Machine.execResumeCountdownEnd s
  | .heatTimeExpiryFreeze => Sys2Proof.Machine.execHeatTimeExpiryFreeze s
  | .heatTimeExpiryRunToLine => Sys2Proof.Machine.execHeatTimeExpiryRunToLine s
  | .graceRunOut => Sys2Proof.Machine.execGraceRunOut s
  | .settleEvent => Sys2Proof.Machine.execSettleEvent s
  | .endHeat p => Sys2Proof.Machine.execEndHeat p s
  | .clockCap => Sys2Proof.Machine.execClockCap s
  | .greenLampFlash => Sys2Proof.Machine.execGreenLampFlash s
  | .filteredLevelChange l k broken capture brokenAt => Sys2Proof.Machine.execFilteredLevelChange l k broken capture brokenAt s
  | .stuckWatchExpiry l k => Sys2Proof.Machine.execStuckWatchExpiry l k s
  | .detectorOut p lane kind => Sys2Proof.Machine.execDetectorOut p lane kind s
  | .detectorRestoreLine p lane => Sys2Proof.Machine.execDetectorRestoreLine p lane s
  | .detectorRestoreSector p lane => Sys2Proof.Machine.execDetectorRestoreSector p lane s
  | .adjudicationDeadline => Sys2Proof.Machine.execAdjudicationDeadline s
  | .accept p seq => Sys2Proof.Machine.execAccept p seq s
  | .reject p seq => Sys2Proof.Machine.execReject p seq s
  | .call p lane kind amount => Sys2Proof.Machine.execCall p lane kind amount s
  | .confirm p seq => Sys2Proof.Machine.execConfirm p seq s
  | .confirmWindowLapse slot => Sys2Proof.Machine.execConfirmWindowLapse slot s
  | .waive p seq => Sys2Proof.Machine.execWaive p seq s
  | .deslot p lane => Sys2Proof.Machine.execDeslot p lane s
  | .clearBook p => Sys2Proof.Machine.execClearBook p s
  | .stopGoEnd l => Sys2Proof.Machine.execStopGoEnd l s
  | .laneLampFlash l => Sys2Proof.Machine.execLaneLampFlash l s
  | .pwmPeriodStart => Sys2Proof.Machine.execPwmPeriodStart s
  | .onTimeEnd l => Sys2Proof.Machine.execOnTimeEnd l s
  | .deadTimeEnd l => Sys2Proof.Machine.execDeadTimeEnd l s
  | .overcurrentTrip l => Sys2Proof.Machine.execOvercurrentTrip l s
  | .retryDelayEnd l => Sys2Proof.Machine.execRetryDelayEnd l s
  | .retryWatchEnd l => Sys2Proof.Machine.execRetryWatchEnd l s
  | .driveOnRunComplete l => Sys2Proof.Machine.execDriveOnRunComplete l s
  | .laneRestore p lane => Sys2Proof.Machine.execLaneRestore p lane s
  | .supplyLowEdge => Sys2Proof.Machine.execSupplyLowEdge s
  | .supplyLowRecovery => Sys2Proof.Machine.execSupplyLowRecovery s
  | .setExceptionMask p kinds => Sys2Proof.Machine.execSetExceptionMask p kinds s
  | .clearExceptions p kinds => Sys2Proof.Machine.execClearExceptions p kinds s
  | .point p selector parameter => Sys2Proof.Machine.execPoint p selector parameter s
  | .read p => Sys2Proof.Machine.execRead p s
  | .write p value => Sys2Proof.Machine.execWrite p value s
  | .readAlerts p => Sys2Proof.Machine.execReadAlerts p s
  | .setAlertMask p items => Sys2Proof.Machine.execSetAlertMask p items s
  | .selectCounter p cls => Sys2Proof.Machine.execSelectCounter p cls s
  | .readCounter p => Sys2Proof.Machine.execReadCounter p s
  | .identify p => Sys2Proof.Machine.execIdentify p s
  | .frameCheck p f => Sys2Proof.Machine.execFrameCheck p f s
  | .unknownRequest p code => Sys2Proof.Machine.execUnknownRequest p code s
  | .framingError p => Sys2Proof.Machine.execFramingError p s
  | .timeout p => Sys2Proof.Machine.execTimeout p s
  | .discardingQuietEnd p => Sys2Proof.Machine.execDiscardingQuietEnd p s
  | .overrun p => Sys2Proof.Machine.execOverrun p s
  | .responseSent p => Sys2Proof.Machine.execResponseSent p s
  | .byteReceived p b => Sys2Proof.Machine.execByteReceived p b s
  | .overcurrentFilteredLevelDeasserted l => Sys2Proof.Machine.execOvercurrentFilteredLevelDeasserted l s

end Sys2Proof.Machine
end

