-- ==== Sys2Proof/Machine/Frames.lean ====
section
/-! DEFINITION. The frames of the requests (R196): the command that a completed frame spells at a port, the frame that spells
a command, and the port a command belongs to. -/

namespace Sys2Proof.Machine

/-- The five bytes of a frame in the order in which they arrive (section 10.2). -/
def Frame.bytes (f : Frame) : List Byte := [f.code, f.selector, f.paramHigh, f.paramLow, f.check]

/-- The high byte of a parameter. -/
def highByte (w : Word) : Byte := w.extractLsb' 8 8

/-- The low byte of a parameter. -/
def lowByte (w : Word) : Byte := w.extractLsb' 0 8

/-- The frame of a code, a selector and a parameter, its check byte chosen so that the five bytes sum to 0 (R196). -/
def frameOf (code selector : Byte) (parameter : Word) : Frame :=
  ⟨code, selector, highByte parameter, lowByte parameter,
    0 - (code + selector + highByte parameter + lowByte parameter)⟩

/-- The command a completed frame spells at a port, in the order of the checks of R179: a bad check byte, a code that names
no request, or the request of the code with its operands (R196). A DETECTOR RESTORE or RESET PART whose parameter names no
choice spells no command of the table (R196 refuses it with UNKNOWN_REQUEST). -/
def frameCommand (p : Port) (f : Frame) : Option Instr :=
  let v := frameParameter f
  if f.sum != 0 then some (.frameCheck p f)
  else
    match f.code.toNat with
    | 1 => some (.point p f.selector v)
    | 2 => some (.read p)
    | 3 => some (.write p v)
    | 4 => some (.stageHeat p)
    | 5 => some (.start p)
    | 6 => some (.recallStart p)
    | 7 => some (.trackCall p)
    | 8 => some (.resume p)
    | 9 => some (.endHeat p)
    | 10 => some (.clearHeat p)
    | 11 => some (.call p f.selector f.paramHigh f.paramLow)
    | 12 => some (.confirm p v)
    | 13 => some (.waive p v)
    | 14 => some (.deslot p f.selector)
    | 15 => some (.clearBook p)
    | 16 => some (.accept p v)
    | 17 => some (.reject p v)
    | 18 => some (.detectorOut p f.selector v)
    | 19 =>
      match v.toNat with
      | 0 => some (.detectorRestoreLine p f.selector)
      | 1 => some (.detectorRestoreSector p f.selector)
      | _ => none
    | 20 => some (.laneRestore p f.selector)
    | 21 => some (.setExceptionMask p v)
    | 22 => some (.clearExceptions p v)
    | 23 => some (.readAlerts p)
    | 24 => some (.setAlertMask p v)
    | 25 => some (.selectCounter p v)
    | 26 => some (.readCounter p)
    | 27 =>
      match v.toNat with
      | 1 => some (.resetPartClear p)
      | 2 => some (.resetPartKeep p)
      | _ => none
    | 28 => some (.identify p)
    | _ => some (.unknownRequest p f.code)

/-- The port and the frame of a request command; the selector and parameter bits that a request does not use are 0 (R196).
None for a command that is no request. -/
def commandFrame : Instr → Option (Port × Frame)
  | .point p selector parameter => some (p, frameOf 1 selector parameter)
  | .read p => some (p, frameOf 2 0 0)
  | .write p value => some (p, frameOf 3 0 value)
  | .stageHeat p => some (p, frameOf 4 0 0)
  | .start p => some (p, frameOf 5 0 0)
  | .recallStart p => some (p, frameOf 6 0 0)
  | .trackCall p => some (p, frameOf 7 0 0)
  | .resume p => some (p, frameOf 8 0 0)
  | .endHeat p => some (p, frameOf 9 0 0)
  | .clearHeat p => some (p, frameOf 10 0 0)
  | .call p lane kind amount => some (p, frameOf 11 lane (kind ++ amount))
  | .confirm p seq => some (p, frameOf 12 0 seq)
  | .waive p seq => some (p, frameOf 13 0 seq)
  | .deslot p lane => some (p, frameOf 14 lane 0)
  | .clearBook p => some (p, frameOf 15 0 0)
  | .accept p seq => some (p, frameOf 16 0 seq)
  | .reject p seq => some (p, frameOf 17 0 seq)
  | .detectorOut p lane kind => some (p, frameOf 18 lane kind)
  | .detectorRestoreLine p lane => some (p, frameOf 19 lane 0)
  | .detectorRestoreSector p lane => some (p, frameOf 19 lane 1)
  | .laneRestore p lane => some (p, frameOf 20 lane 0)
  | .setExceptionMask p kinds => some (p, frameOf 21 0 kinds)
  | .clearExceptions p kinds => some (p, frameOf 22 0 kinds)
  | .readAlerts p => some (p, frameOf 23 0 0)
  | .setAlertMask p items => some (p, frameOf 24 0 items)
  | .selectCounter p cls => some (p, frameOf 25 0 cls)
  | .readCounter p => some (p, frameOf 26 0 0)
  | .resetPartClear p => some (p, frameOf 27 0 1)
  | .resetPartKeep p => some (p, frameOf 27 0 2)
  | .identify p => some (p, frameOf 28 0 0)
  | .frameCheck p f => some (p, f)
  | .unknownRequest p code => some (p, frameOf code 0 0)
  | .powerOn _ | .resetPin | .resetPinRelease _ | .resetPartTaken | .redLampLit | .greenEvent | .resumeLampOut
  | .resumeCountdownEnd | .heatTimeExpiryFreeze | .heatTimeExpiryRunToLine | .graceRunOut | .settleEvent | .clockCap
  | .greenLampFlash | .filteredLevelChange _ _ _ _ _ | .stuckWatchExpiry _ _ | .adjudicationDeadline
  | .confirmWindowLapse _ | .stopGoEnd _ | .laneLampFlash _ | .pwmPeriodStart | .onTimeEnd _ | .deadTimeEnd _
  | .overcurrentTrip _ | .retryDelayEnd _ | .retryWatchEnd _ | .driveOnRunComplete _ | .supplyLowEdge | .supplyLowRecovery
  | .framingError _ | .timeout _ | .discardingQuietEnd _ | .overrun _ | .responseSent _ | .byteReceived _ _
  | .overcurrentFilteredLevelDeasserted _ => none

/-- The port at which a command arrives: that of its frame, or the line of a byte, an error or a response. None for a command
that comes from no station line. -/
def commandPort (c : Instr) : Option Port :=
  match c with
  | .framingError p | .timeout p | .discardingQuietEnd p | .overrun p | .responseSent p | .byteReceived p _ => some p
  | c => (commandFrame c).map Prod.fst

end Sys2Proof.Machine
end

