-- ==== Sys2Proof/Safety.lean ====
section
/-! DEFINITION. The terms in which the claims are stated: a port ready for a request, what an event leaves at the ports, and
the invariants of a safe run. -/

namespace Sys2Proof.Safety

open Sys2Proof.Machine

/-! ### Requests and ports -/

/-- The part runs and the port waits for a frame (R174, R176). -/
structure Ready (s : State) (p : Port) : Prop where
  running : s.pins.reset = false
  waiting : (s.ports.get p).receive = .waiting

/-- A port after alert items have been posted and, perhaps, one event of a class counted (R188, R190). -/
def posted (items : List Alert) (counted : Option CounterClass) (x : PortState) : PortState :=
  { x with
    alerts := items.foldl (fun a i => a.insert i) x.alerts
    counter := if counted = some x.counterClass then bump255 x.counter else x.counter }

/-- A port whose request of a code, taken at a station time, is being answered (R176, R179). -/
def answered (now : StationTime) (code : Byte) (r : Reply) (x : PortState) : PortState :=
  { x with
    receive := .answering
    lastByte := some now
    overrun := false
    response := some ⟨r.status, code, r.data⟩
    transmitEnable := true }

/-- Every port after an event that posts items and counts at most one event of a class. -/
def portsPosted (items : List Alert) (counted : Option CounterClass) (s : State) : Ports PortState :=
  s.ports.mapPort fun _ => posted items counted

/-- Every port after a request of a code at a port has been answered, having posted items and counted at most one event. -/
def portsAnswered (p : Port) (code : Byte) (r : Reply) (items : List Alert) (counted : Option CounterClass)
    (s : State) : Ports PortState :=
  let x := portsPosted items counted s
  x.set p (answered s.now code r (x.get p))

/-- Every port after a request of a code at a port has been refused: the refusal carries no data, and the REFUSALS counters
count it (R179, R180, R190). -/
def portsRefused (p : Port) (code : Byte) (r : Reason) (s : State) : Ports PortState :=
  portsAnswered p code ⟨.refused r, 0⟩ [] (some .refusals) s

/-- A port after one frame error of its own (R190). -/
def errorCounted (x : PortState) : PortState :=
  { x with counter := if x.counterClass = .frameErrors then bump255 x.counter else x.counter }

/-- From `s` to `t` exactly one event of the class was counted: by every port that has it selected, up to 255 (R190). -/
def CountsOne (c : CounterClass) (s t : State) : Prop :=
  ∀ q, (t.ports.get q).counter =
    if (s.ports.get q).counterClass = c then min 255 ((s.ports.get q).counter + 1) else (s.ports.get q).counter

/-- The gap since a port's last byte has reached 6 ms (R177). -/
def LongGap (s : State) (p : Port) : Prop := ∃ t, (s.ports.get p).lastByte = some t ∧ 6 ≤ elapsed s.now t

/-! ### Crossings -/

/-- A detector record and its input pin after a change of filtered level (R1, R4; log entry 5). -/
def levelChanged (l : Lane) (k : DetKind) (broken : Bool) (brokenAt : StationTime) (s : State) : State :=
  { s with pins := s.pins.withDetector l k broken }.modDetector l k fun d =>
    { d with broken := broken, runCount := 0, brokenStart := if broken then some brokenAt else none }

/-- A detector record after a level change that is a crossing: the crossing counted, its capture time noted (R3). -/
def crossingCounted (l : Lane) (k : DetKind) (broken : Bool) (c : Nat) (brokenAt : StationTime) (s : State) : State :=
  (levelChanged l k broken brokenAt s).modDetector l k fun d =>
    { d with crossingCount := min 65535 (d.crossingCount + 1), lastCapture := some c }

/-- A change of filtered level is a crossing edge under the edge setting of the detector's kind (R2). -/
def CrossingEdge (s : State) (k : DetKind) (broken : Bool) : Prop :=
  edgeSetting s.staging k = .leading ∧ broken = true ∨ edgeSetting s.staging k = .trailing ∧ broken = false

/-- A level change of an IN_SERVICE detector that is a crossing edge captured at `c` (R1 to R3). -/
structure Crosses (s : State) (l : Lane) (k : DetKind) (broken : Bool) (c : Nat) : Prop where
  running : s.pins.reset = false
  changes : (s.detector l k).broken ≠ broken
  captured : c ≤ 3960000000
  edge : CrossingEdge s k broken
  inService : (s.detector l k).state = .inService

/-- A lane whose crossings count: GRID or RUNNING, with timing (R18). -/
structure InPlay (s : State) (l : Lane) : Prop where
  racing : (s.lane l).status = .grid ∨ (s.lane l).status = .running
  timed : (s.lane l).timingLost = false

/-- The detector acts as its lane's timing line: a line detector or a promoted sector detector (R3). -/
def TimingLine (s : State) (l : Lane) (k : DetKind) : Prop := k = .line ∨ (s.detector l .sector).promoted = true

/-- The phase takes a crossing captured at `c` as a lap of the race (R19). -/
def TakesLap (s : State) (c : Nat) : Prop :=
  0 < c ∧ ((s.phase = .green ∨ s.phase = .hold ∨ s.phase = .resuming ∨ s.phase = .finishing) ∨
    s.phase = .settling ∧ ∃ te, s.heat.expiryTime = some te ∧ c < te)

/-- A line crossing captured at `c` passes the tests of a valid one: no re-base is pending, and it is the lane's first, or it
comes the lockout or more after the last and, where a sector crossing is required, after one (R21). -/
def PassesTests (s : State) (l : Lane) (k : DetKind) (c : Nat) : Prop :=
  (s.lane l).rebasePending = false ∧
    ((s.contexts.get l).referenceSet = false ∨
      (s.lane l).lastCrossing ≤ c ∧ s.staging.lockout * 1000 ≤ c - (s.lane l).lastCrossing ∧
        (s.staging.sectorUse ≠ .confirm ∨ k = .sector ∨ (s.detector l .sector).state ≠ .inService ∨
          (s.detector l .sector).promoted = true ∨ (s.contexts.get l).sectorMark ≠ none))

/-- A timed lap of the lane captured at `c` finishes it: it brings the net laps of a LAP_TARGET heat to the target or comes after
the finish reference, or it comes at or after the finish reference of a TIMED_RUN_TO_LINE heat (R77, R78; log entry 21). -/
def FinishesAt (s : State) (l : Lane) (c : Nat) : Prop :=
  (s.lane l).status = .running ∧
    (s.staging.heatMode = .lapTarget ∧
        ((s.staging.lapTarget : Int) ≤ (min 65535 ((s.lane l).laps + 1) : Nat) - ((s.lane l).deducted : Int) ∨
          ∃ f, s.heat.finishReference = some f ∧ f < c) ∨
      s.staging.heatMode = .timedRunToLine ∧ ∃ f, s.heat.finishReference = some f ∧ f ≤ c)

/-- The command takes the heat into ENDED with the ending: grace run out, settle event, clock cap and END HEAT (R58 to R61;
the cap under a call: log entry 39). -/
def EndsHeat (s : State) (c : Instr) (e : Ending) : Prop :=
  s.pins.reset = false ∧
    (c = .graceRunOut ∧ e = .grace ∧ (s.phase = .finishing ∨ s.phase = .hold ∨ s.phase = .resuming) ∧
        (∃ t, s.heat.finishingStart = some t ∧ s.staging.grace * 1000 ≤ elapsed s.now t) ∨
      c = .settleEvent ∧ e = .settled ∧ s.phase = .settling ∧
        (∃ te, s.heat.expiryTime = some te ∧ te + 100 ≤ s.heat.raceClock) ∨
      c = .clockCap ∧ e = .cappedClock ∧ 3960000000 ≤ s.heat.raceClock ∧
        (s.phase = .green ∨ s.phase = .hold ∨ s.phase = .resuming ∨ s.phase = .finishing) ∨
      (∃ p, c = .endHeat p ∧ Ready s p ∧ s.role p = .control) ∧ e = .aborted ∧
        (s.phase = .green ∨ s.phase = .hold ∨ s.phase = .resuming ∨ s.phase = .finishing ∨ s.phase = .settling))

/-- No entry that a slot holds has the number (R106). -/
def NumberFree (s : State) (n : Nat) : Prop := ∀ k < 16, (s.entry k).tag ≠ .empty → (s.entry k).seq ≠ n

/-- A new entry takes the slot: the lowest EMPTY one, or where there is none that of the entry that closed first (R105, R122). -/
def TakesSlot (s : State) (k : Nat) : Prop :=
  k < 16 ∧
    ((s.entry k).tag = .empty ∧ (∀ j < k, (s.entry j).tag ≠ .empty) ∨
      (∀ j < 16, (s.entry j).tag ≠ .empty) ∧ s.book.closed.head? = some k)

/-- The dropped-record count once a new entry has taken the slot (R122). -/
def droppedWith (s : State) (k : Nat) : Nat :=
  if (s.entry k).tag = .empty then s.book.dropped else min 255 (s.book.dropped + 1)

/-- The closing order once a new entry has taken the slot: a dropped entry leaves it (R107, R122). -/
def closedWithout (s : State) (k : Nat) : List Nat :=
  if (s.entry k).tag = .empty then s.book.closed else s.book.closed.tail

/-! ### Channels closed with their lane -/

/-- The slots of a lane's channel entries in the order in which they close: the stop channel before the cap channel, the
serving entry before the waiting ones (R141). -/
def channelSlots (s : State) (l : Lane) : List Nat :=
  let c := s.channels.get l
  (c.stop.serving.toList ++ c.stop.waiting ++ c.cap.serving.toList ++ c.cap.waiting).filterMap (slotOf s.book)

/-- The seconds of the stop-gos that wait in a lane's stop channel. -/
def waitingSeconds (s : State) (l : Lane) : Nat :=
  (((s.channels.get l).stop.waiting.filterMap (slotOf s.book)).map fun k => (s.entry k).amount).sum

/-- From `s` to `t` the lane's channels were closed: a serving STOP_GO is TRUNCATED, a waiting one CONVERTED, every POWER_CAP
UNSERVED, all SERVED with the race clock as close time and with their progress kept; TP is raised by the converted seconds
(R139). -/
def ClosedWithLane (s t : State) (l : Lane) : Prop :=
  t.channels.get l = ⟨⟨[], none⟩, ⟨[], none⟩⟩ ∧
  (t.lane l).timePenalty =
    (if (s.channels.get l).stop.waiting = [] then (s.lane l).timePenalty
      else min 4294967295 ((s.lane l).timePenalty + waitingSeconds s l * 100000)) ∧
  ∀ k ∈ channelSlots s l,
    t.entry k = { s.entry k with
      tag := .served
      closeTime := some s.heat.raceClock
      outcomes :=
        match (s.entry k).kind, (s.entry k).tag with
        | .stopGo, .serving => { (s.entry k).outcomes with truncated := true }
        | .stopGo, _ => { (s.entry k).outcomes with converted := true }
        | _, _ => { (s.entry k).outcomes with unserved := true } }

/-! ### Words of a record (R194) -/

/-- Word `i` of a record is the number. -/
def HasWord (ws : List Word) (i n : Nat) : Prop := ws[i]? = some (BitVec.ofNat 16 n)

/-- Words `i` and `i + 1` of a record are the number, the high word first. -/
def HasPair (ws : List Word) (i n : Nat) : Prop := HasWord ws i (n / 65536) ∧ HasWord ws (i + 1) (n % 65536)

/-- Word `i` of a record is the number, or all ones where it is absent. -/
def HasField (ws : List Word) (i : Nat) (n : Option Nat) : Prop := HasWord ws i (n.getD 65535)

/-- Words `i` and `i + 1` of a record are the number, or all ones where it is absent. -/
def HasWide (ws : List Word) (i : Nat) (n : Option Nat) : Prop := HasPair ws i (n.getD 4294967295)

/-- Words `i` to `i + 3` of a record are the tick value, raw and reported, or all ones where it is absent. -/
def HasTimes (st : Staging) (ws : List Word) (i : Nat) (n : Option Nat) : Prop :=
  HasWide ws i n ∧ HasWide ws (i + 2) (n.map (reported st))

/-- Word `i` of a record is the set of the members that hold, the first in bit 0, no other bit set. -/
def HasSet (ws : List Word) (i : Nat) (members : List Bool) : Prop :=
  ∃ w, ws[i]? = some w ∧ ∀ b < 16, w.getLsbD b = (members[b]?).getD false

/-! ### Invariants of a safe run -/

/-- The outputs agree with the power state: drive on only in FULL and CAPPED, brake on only in HELD and CUT, never both; each
lane lamp shows its condition, dark when off and lit when steady (R143 to R148). -/
def OutputsFollow (s : State) : Prop :=
  ∀ l : Lane,
    ((s.power.get l).drive = true → powerState s l = .full ∨ powerState s l = .capped) ∧
    ((s.power.get l).brake = true → powerState s l = .held ∨ powerState s l = .cut) ∧
    ¬ ((s.power.get l).drive = true ∧ (s.power.get l).brake = true) ∧
    (s.lamps.get l).condition = lampCondition s l ∧
    ((s.lamps.get l).condition = .off → (s.lamps.get l).lit = false) ∧
    ((s.lamps.get l).condition = .steady → (s.lamps.get l).lit = true)

/-- The running order holds each enabled lane once, each lane's position is its place in it, and a CALLED entry is of an
enabled lane (R80, R82, R109). -/
def OrderAgrees (s : State) : Prop :=
  s.order.Nodup ∧
  (∀ l : Lane, (l ∈ s.order ↔ (s.lane l).status ≠ .out) ∧
    (s.lane l).position = (if l ∈ s.order then s.order.idxOf l + 1 else 0)) ∧
  (∀ k < 16, (s.entry k).tag = .called → (s.lane (s.entry k).lane).status ≠ .out)

/-- The book has 16 slots whose open and closed entries have different numbers, the queue at most 8 places whose suspects have
different numbers; every number and both counters lie in 1 to 65,535 (R30, R105, R106). -/
def NumbersDiffer (s : State) : Prop :=
  s.book.slots.length = 16 ∧
  (∀ j < 16, ∀ k < 16, (s.entry j).tag ≠ .empty → (s.entry k).tag ≠ .empty → (s.entry j).seq = (s.entry k).seq → j = k) ∧
  (∀ k < 16, (s.entry k).tag ≠ .empty → 1 ≤ (s.entry k).seq ∧ (s.entry k).seq ≤ 65535) ∧
  1 ≤ s.book.nextSeq ∧ s.book.nextSeq ≤ 65535 ∧
  s.queue.length ≤ 8 ∧ (s.queue.map Suspect.seq).Nodup ∧
  (∀ x ∈ s.queue, 1 ≤ x.seq ∧ x.seq ≤ 65535) ∧ 1 ≤ s.queueSeq ∧ s.queueSeq ≤ 65535

/-- Book and channels agree: a waiting number names an ACTIVE entry of the channel's lane and kind, in activation order and then
by number, the serving number a SERVING one; every ACTIVE or SERVING entry stands in its channel, and an open one that can be
served has its progress; the closing order lists each SERVED and WAIVED slot once (R105, R107, R108, R130). -/
def ChannelsAgree (s : State) : Prop :=
  (∀ l : Lane, ∀ kind : Kind, kind = .stopGo ∨ kind = .powerCap →
    let c := if kind = .stopGo then (s.channels.get l).stop else (s.channels.get l).cap
    (∀ q ∈ c.waiting, ∃ k < 16, slotOf s.book q = some k ∧ (s.entry k).tag = .active ∧ (s.entry k).lane = l ∧
      (s.entry k).kind = kind ∧ (s.entry k).activationTime ≠ none ∧ (s.entry k).progress ≠ none) ∧
    (∀ q, c.serving = some q → ∃ k < 16, slotOf s.book q = some k ∧ (s.entry k).tag = .serving ∧ (s.entry k).lane = l ∧
      (s.entry k).kind = kind ∧ (s.entry k).activationTime ≠ none ∧ (s.entry k).progress ≠ none) ∧
    c.waiting.Pairwise (fun a b =>
      activationOf s a < activationOf s b ∨ activationOf s a = activationOf s b ∧ a < b)) ∧
  (∀ k < 16, (s.entry k).tag = .called → (s.entry k).kind = .stopGo ∨ (s.entry k).kind = .powerCap →
    (s.entry k).progress ≠ none) ∧
  (∀ k < 16, (s.entry k).tag = .active ∨ (s.entry k).tag = .serving →
    ((s.entry k).kind = .stopGo ∨ (s.entry k).kind = .powerCap) ∧
    let c := s.channels.get (s.entry k).lane
    let x := if (s.entry k).kind = .stopGo then c.stop else c.cap
    ((s.entry k).tag = .active → (s.entry k).seq ∈ x.waiting) ∧
    ((s.entry k).tag = .serving → x.serving = some (s.entry k).seq)) ∧
  s.book.closed.Nodup ∧
  (∀ k, k ∈ s.book.closed ↔ k < 16 ∧ ((s.entry k).tag = .served ∨ (s.entry k).tag = .waived))

/-- A lane's L stays in its range and its history holds at most 32 laps whose numbers rise strictly from 1 or more to L or
less (R73, R74, R76). -/
def HistoriesAscend (s : State) : Prop :=
  ∀ l : Lane, (s.lane l).laps ≤ 65535 ∧ (s.lane l).history.length ≤ 32 ∧
    (s.lane l).history.Pairwise (fun a b => a.number < b.number) ∧
    (∀ x ∈ (s.lane l).history, 1 ≤ x.number ∧ x.number ≤ (s.lane l).laps)

/-- The heat fields agree with the phase (R43, R45 to R63): the race clock stands at 0 before the green event and below its
cap; resume target and resume start are present while the track is called and while it resumes; an ending is present in ENDED
alone; the start lamps show the phase; no suspect waits before the green event. -/
def HeatFieldsAgree (s : State) : Prop :=
  let h := s.heat
  let before := h.phase = .idle ∨ h.phase = .staged ∨ h.phase = .countdown
  h.raceClock ≤ 3960000000 ∧ (before → h.raceClock = 0 ∧ s.queue = [] ∧ h.finishReference = none) ∧
  (h.resumeTarget ≠ none ↔ h.phase = .hold ∨ h.phase = .resuming) ∧ (h.resumeStart ≠ none ↔ h.phase = .resuming) ∧
  (h.ending ≠ none ↔ h.phase = .ended) ∧
  (h.phase ≠ .countdown → h.lampsLit = 0) ∧
  (h.phase = .countdown → h.countdownStart ≠ none ∧ 1 ≤ h.lampsLit ∧ h.lampsLit ≤ 5 ∧
    h.red = ⟨decide (1 ≤ h.lampsLit), decide (2 ≤ h.lampsLit), decide (3 ≤ h.lampsLit), decide (4 ≤ h.lampsLit),
      decide (5 ≤ h.lampsLit)⟩) ∧
  (h.phase = .hold → h.red = ⟨true, true, true, true, true⟩) ∧
  (h.phase ≠ .countdown → h.phase ≠ .hold → h.phase ≠ .resuming → h.red = ⟨false, false, false, false, false⟩) ∧
  (h.phase = .green → h.greenLit = true) ∧ (h.greenLit = true → h.phase = .green ∨ h.phase = .finishing) ∧
  (h.phase = .finishing → h.finishingStart ≠ none) ∧
  (h.phase ≠ .idle → (h.expiryTime = none ↔ s.staging.heatMode = .lapTarget))

/-- The phases that one command may take the heat to from a phase, resets aside (section 3.3). -/
def phaseAfter : Phase → List Phase
  | .idle => [.staged]
  | .staged => [.idle, .countdown]
  | .countdown => [.staged, .green, .ended]
  | .green => [.hold, .finishing, .settling, .ended]
  | .hold => [.green, .resuming, .finishing, .settling, .ended]
  | .resuming => [.green, .hold, .finishing, .settling, .ended]
  | .finishing => [.hold, .ended]
  | .settling => [.ended]
  | .ended => [.idle, .staged]

/-! ### Runs -/

/-- Commands carried out one after another, each on the state the one before it left. -/
def execAll : List Instr → State → Host.Outcome State Fault Refusal
  | [], s => .next s
  | c :: rest, s =>
    match exec c s with
    | .next t => execAll rest t
    | .fault r => .fault r
    | .refused r => .refused r

end Sys2Proof.Safety
end

