-- ==== Sys2Proof/Certificates/Slice0/Obligations.lean ====
section
/-! DEFINITION. The statements for the provers. `Ready s p` says that the part runs and port `p` waits; `portsAnswered`,
`portsRefused` and `portsPosted` say what a request or an event leaves at the ports; `settle` lets outputs, lamps and watches
follow the rest of the state (Sys2Proof/Safety.lean, Sys2Proof/Machine/Outputs.lean). -/

open Sys2Proof Sys2Proof.Machine Sys2Proof.Safety

/-! ### Steps and time -/

/-- Each step takes the command at the front of the queue and carries it out with the rest of the queue left waiting. -/
def Obligations.StepTakesFrontCommand : Prop :=
  ∀ (c : Instr) (rest : List Instr) (s : State),
    s.pending = c :: rest → step s = exec c { s with pending := rest }

/-- Every command is carried out in every state, and leaves the queue of waiting commands as it is; with none waiting a step
of time is carried out (log entry 1). -/
def Obligations.EveryCommandCompletes : Prop :=
  (∀ (c : Instr) (s : State), ∃ t, exec c s = .next t ∧ t.pending = s.pending) ∧
  (∀ s : State, s.pending = [] → ∃ t, step s = .next t)

/-- With no command waiting the part's own time advances by 125 ns: 80 such steps make a tick of 10 µs, 100 ticks a
millisecond of station time, and the race clock takes each tick while it runs, up to its cap (R42, R43). Each step counts in
the PWM period and in the time for which a drive or brake has been off; each millisecond counts in the drive-on run and a
started retry watch of a lane that is FULL or CAPPED, and off the progress of a serving stop-go of a lane that is not HELD
(R134, R147, R148, R154, R155). The 125 ns step on an empty queue, and that the last millisecond of a stop-go is
STOP_GO_END's, are the model's choices (log entries 1, 3 and 23). -/
def Obligations.IdleStepCountsTime : Prop :=
  ∀ s : State, s.pending = [] → s.pins.reset = false →
    let tickDone := 80 ≤ s.clock.tickSteps + 1
    let msDone := tickDone ∧ 100 ≤ s.clock.msTicks + 1
    ∃ t, step s = .next t ∧
      (¬ tickDone →
        t.clock.tickSteps = s.clock.tickSteps + 1 ∧ t.clock.msTicks = s.clock.msTicks ∧
        t.clock.stationTime = s.clock.stationTime ∧ t.heat = s.heat) ∧
      (tickDone →
        t.clock.tickSteps = 0 ∧
        t.heat = { s.heat with
          raceClock :=
            if s.heat.phase = .green ∨ s.heat.phase = .finishing ∨ s.heat.phase = .settling ∨
                ((s.heat.phase = .hold ∨ s.heat.phase = .resuming) ∧ s.staging.clockUnderCall = .run)
            then min 3960000000 (s.heat.raceClock + 1)
            else s.heat.raceClock }) ∧
      (tickDone → ¬ msDone →
        t.clock.msTicks = s.clock.msTicks + 1 ∧ t.clock.stationTime = s.clock.stationTime) ∧
      (msDone → t.clock.msTicks = 0 ∧ t.clock.stationTime = s.clock.stationTime + 1) ∧
      t.clock.pwmElapsed = s.clock.pwmElapsed + 1 ∧ t.clock.pwmLeft = s.clock.pwmLeft - 1 ∧
      (∀ l : Lane,
        let x := s.power.get l
        let y := t.power.get l
        let counts := msDone ∧ (powerState s l = .full ∨ powerState s l = .capped)
        y = { x with
          driveOff := if x.drive then 0 else min 504 (x.driveOff + 1)
          brakeOff := if x.brake then 0 else min 504 (x.brakeOff + 1)
          driveOnRun := if counts then min 5000 (x.driveOnRun + 1) else x.driveOnRun
          retryWatch := if counts ∧ x.watchStarted = true then x.retryWatch.map (· - 1) else x.retryWatch
          overcurrentRun := y.overcurrentRun }) ∧
      (∀ k, (∀ (l : Lane) (q : Nat), (s.channels.get l).stop.serving = some q → slotOf s.book q ≠ some k) →
        t.entry k = s.entry k) ∧
      (NumbersDiffer s → ChannelsAgree s →
        ∀ (l : Lane) (q : Nat), (s.channels.get l).stop.serving = some q →
          ∀ k, slotOf s.book q = some k → ∀ n, (s.entry k).progress = some n →
            (msDone → powerState s l ≠ .held → 2 ≤ n → t.entry k = { s.entry k with progress := some (n - 1) }) ∧
            (¬ msDone ∨ powerState s l = .held ∨ n ≤ 1 → t.entry k = s.entry k)) ∧
      t.book = { s.book with slots := t.book.slots } ∧ t.book.slots.length = s.book.slots.length ∧
      t.staging = s.staging ∧ t.lanes = s.lanes ∧ t.order = s.order ∧ t.contexts = s.contexts ∧ t.queue = s.queue ∧
      t.channels = s.channels ∧ t.deslots = s.deslots ∧ t.lamps = s.lamps ∧ t.exceptions = s.exceptions ∧
      t.ports = s.ports ∧ t.pins = s.pins ∧ t.straps = s.straps ∧ t.pendingReset = s.pendingReset

/-- At a sample instant, the end of each tick, every detector input, every overcurrent input of a lane whose drive is on, and
the supply-low input are sampled. The first sample after a reset sets a filtered level; later a sample that finds the
filtered level ends the run, one that differs counts on, and the first of a run notes race clock and station time. A run of 4
samples, or of 1 with the detector filter off, puts FILTERED_LEVEL_CHANGE with those times into the queue; 4 asserted
overcurrent samples OVERCURRENT_TRIP, a deasserted one OVERCURRENT_FILTERED_LEVEL_DEASSERTED where the level is asserted; 100
samples of the supply input its edge or its recovery (R1, R2, R4, R151, R159). Between sample instants nothing is sampled.
That these changes are commands which join the queue is the model's choice (log entries 1, 2 and 5). -/
def Obligations.InputsAreSampled : Prop :=
  (∀ s : State, s.pending = [] → s.pins.reset = false → 80 ≤ s.clock.tickSteps + 1 →
    let run := if s.staging.detectorFilter then 4 else 1
    let low := s.supply.low
    ∃ t, step s = .next t ∧ t.clock.sampled = true ∧
      (∀ (l : Lane) (k : DetKind),
        let d := s.detector l k
        let e := t.detector l k
        let level := match k with | .line => s.pins.line.get l | .sector => s.pins.sector.get l
        (s.clock.sampled = false →
          e = { d with broken := level, runCount := 0, brokenStart := if level then some t.now else none }) ∧
        (s.clock.sampled = true → level = d.broken → e = { d with runCount := 0 }) ∧
        (s.clock.sampled = true → level ≠ d.broken → d.runCount = 0 →
          e = { d with runCount := 1, runRaceClock := t.heat.raceClock, runStationTime := t.now }) ∧
        (s.clock.sampled = true → level ≠ d.broken → d.runCount ≠ 0 → e = { d with runCount := d.runCount + 1 }) ∧
        (run ≤ e.runCount →
          Instr.filteredLevelChange l k (!e.broken) e.runRaceClock e.runStationTime ∈ t.pending) ∧
        (∀ (b : Bool) (c : Nat) (at' : StationTime), Instr.filteredLevelChange l k b c at' ∈ t.pending →
          run ≤ e.runCount ∧ b = (!e.broken) ∧ c = e.runRaceClock ∧ at' = e.runStationTime)) ∧
      (∀ l : Lane,
        let x := s.power.get l
        let y := t.power.get l
        let high := s.pins.overcurrent.get l
        (x.drive = false → y.overcurrentRun = x.overcurrentRun) ∧
        (x.drive = true → high = true → y.overcurrentRun = x.overcurrentRun + 1) ∧
        (x.drive = true → high = false → x.overcurrent = false → y.overcurrentRun = 0) ∧
        (Instr.overcurrentTrip l ∈ t.pending ↔ x.drive = true ∧ high = true ∧ 4 ≤ y.overcurrentRun) ∧
        (Instr.overcurrentFilteredLevelDeasserted l ∈ t.pending ↔
          x.drive = true ∧ high = false ∧ x.overcurrent = true)) ∧
      (s.clock.sampled = false → t.supply = ⟨s.pins.supplyLow, 0⟩) ∧
      (s.clock.sampled = true → s.pins.supplyLow = low → t.supply = ⟨low, 0⟩) ∧
      (s.clock.sampled = true → s.pins.supplyLow ≠ low → t.supply = ⟨low, s.supply.runCount + 1⟩) ∧
      (Instr.supplyLowEdge ∈ t.pending ↔ 100 ≤ t.supply.runCount ∧ t.supply.low = false) ∧
      (Instr.supplyLowRecovery ∈ t.pending ↔ 100 ≤ t.supply.runCount ∧ t.supply.low = true)) ∧
  (∀ s : State, s.pending = [] → s.pins.reset = false → s.clock.tickSteps + 1 < 80 →
    ∃ t, step s = .next t ∧ t.detectors = s.detectors ∧ t.supply = s.supply ∧ t.clock.sampled = s.clock.sampled ∧
      (∀ l : Lane, (t.power.get l).overcurrentRun = (s.power.get l).overcurrentRun ∧
        Instr.overcurrentTrip l ∉ t.pending ∧ Instr.overcurrentFilteredLevelDeasserted l ∉ t.pending ∧
        ∀ (k : DetKind) (b : Bool) (c : Nat) (at' : StationTime), Instr.filteredLevelChange l k b c at' ∉ t.pending) ∧
      Instr.supplyLowEdge ∉ t.pending ∧ Instr.supplyLowRecovery ∉ t.pending)

/-- In a step of time the command of each timer joins the queue exactly when its rule makes it due, and no request ever does:
the pacing of countdown and resume, heat time, grace, settle event and clock cap, the stuck watches, the adjudication
deadline, the confirm windows, retry delays, retry watches and clean runs, the flashing lamps, the gaps on the station lines,
PWM period starts, on-times and dead times, and the last millisecond of a stop-go; a heat time expiry joins ahead of all that
fall due with it (R7, R34, R47, R54 to R56, R58, R59, R61, R63, R114, R135, R144, R147 to R149, R153 to R155, R177). That due
timers join a queue, the expiry first, and that the clock cap is due under a call under either clock policy, is the model's
choice (log entries 1, 2 and 4; 39). -/
def Obligations.TimersJoinTheQueue : Prop :=
  ∀ s : State, s.pending = [] → s.pins.reset = false →
    ∃ t, step s = .next t ∧
      (let h := t.heat
       let st := t.staging
       let since (x : StationTime) : Nat := elapsed t.now x
       let called := h.phase = .hold ∨ h.phase = .resuming
       let racing := h.phase = .green ∨ called ∨ h.phase = .finishing
       let expires := h.phase = .green ∨ called ∧ st.clockUnderCall = .run
       let msDone := 80 ≤ s.clock.tickSteps + 1 ∧ 100 ≤ s.clock.msTicks + 1
       (h.phase ≠ .countdown → Instr.redLampLit ∉ t.pending ∧ Instr.greenEvent ∉ t.pending) ∧
       (∀ start, h.countdownStart = some start → h.phase = .countdown →
         (Instr.redLampLit ∈ t.pending ↔ h.lampsLit < 5 ∧ h.lampsLit * 1000 ≤ since start) ∧
         (Instr.greenEvent ∈ t.pending ↔ 5000 + st.greenDelay ≤ since start)) ∧
       (h.phase ≠ .resuming → Instr.resumeLampOut ∉ t.pending ∧ Instr.resumeCountdownEnd ∉ t.pending) ∧
       (∀ start, h.resumeStart = some start → h.phase = .resuming →
         (∀ k < 5, h.red = ⟨decide (k < 1), decide (k < 2), decide (k < 3), decide (k < 4), true⟩ →
           (Instr.resumeLampOut ∈ t.pending ↔ k < 4 ∧ (k + 1) * st.resumeCountdown * 200 ≤ since start)) ∧
         (Instr.resumeCountdownEnd ∈ t.pending ↔ 5 * st.resumeCountdown * 200 ≤ since start)) ∧
       (Instr.heatTimeExpiryFreeze ∈ t.pending ↔ st.heatMode = .timedFreeze ∧ expires ∧
         ∃ te, h.expiryTime = some te ∧ te ≤ h.raceClock) ∧
       (Instr.heatTimeExpiryRunToLine ∈ t.pending ↔ st.heatMode = .timedRunToLine ∧ expires ∧ h.finishReference = none ∧
         ∃ te, h.expiryTime = some te ∧ te ≤ h.raceClock) ∧
       (∀ c ∈ [Instr.heatTimeExpiryFreeze, .heatTimeExpiryRunToLine], c ∈ t.pending → t.pending.head? = some c) ∧
       (Instr.graceRunOut ∈ t.pending ↔ (called ∨ h.phase = .finishing) ∧
         ∃ start, h.finishingStart = some start ∧ st.grace * 1000 ≤ since start) ∧
       (Instr.settleEvent ∈ t.pending ↔ h.phase = .settling ∧ ∃ te, h.expiryTime = some te ∧ te + 100 ≤ h.raceClock) ∧
       (Instr.clockCap ∈ t.pending ↔ racing ∧ 3960000000 ≤ h.raceClock) ∧
       (Instr.greenLampFlash ∈ t.pending ↔ h.phase = .finishing ∧ 250 ≤ since h.greenToggled) ∧
       (Instr.adjudicationDeadline ∈ t.pending ↔
         ∃ x, t.queue.head? = some x ∧ st.adjudicationWindow * 1000 ≤ since x.arrival) ∧
       (∀ k, Instr.confirmWindowLapse k ∈ t.pending ↔
         k < 16 ∧ (t.entry k).tag = .called ∧ st.confirmWindow * 1000 ≤ since (t.entry k).callStation) ∧
       (Instr.pwmPeriodStart ∈ t.pending ↔ t.clock.pwmLeft = 0) ∧
       (∀ l : Lane,
         let y := t.power.get l
         let lamp := t.lamps.get l
         (∀ k : DetKind, Instr.stuckWatchExpiry l k ∈ t.pending ↔
           (t.detector l k).state = .inService ∧ (t.detector l k).broken = true ∧ (t.detector l k).watchExpired = false ∧
             (h.phase = .green ∨ h.phase = .finishing) ∧ (t.lane l).status = .running ∧
             (∃ b, (t.detector l k).brokenStart = some b ∧ st.stuckLimit ≤ since b) ∧
             ∃ r, h.racingSince = some r ∧ st.stuckLimit ≤ since r) ∧
         (Instr.retryDelayEnd l ∈ t.pending ↔ y.tripped = true ∧
           ∃ e, y.retryDelayEnd = some e ∧ st.retryDelay ≤ since (e - BitVec.ofNat 32 st.retryDelay)) ∧
         (Instr.retryWatchEnd l ∈ t.pending ↔ y.watchStarted = true ∧ y.retryWatch = some 0) ∧
         (Instr.driveOnRunComplete l ∈ t.pending ↔ 5000 ≤ y.driveOnRun ∧ 0 < y.retryCount) ∧
         (Instr.laneLampFlash l ∈ t.pending ↔ lamp.condition = .flash1 ∧ 500 ≤ since lamp.toggled ∨
           lamp.condition = .flash2 ∧ 250 ≤ since lamp.toggled ∨ lamp.condition = .flash4 ∧ 125 ≤ since lamp.toggled) ∧
         (Instr.onTimeEnd l ∈ t.pending ↔ y.drive = true ∧ powerState t l = .capped ∧
           ∃ on, y.onTime = some on ∧ on ≤ t.clock.pwmElapsed) ∧
         (Instr.deadTimeEnd l ∈ t.pending ↔ (powerState t l = .held ∨ powerState t l = .cut) ∧ y.drive = false ∧
           y.brake = false ∧ st.deadTime * 8 ≤ y.driveOff) ∧
         ((s.channels.get l).stop.serving = none → Instr.stopGoEnd l ∉ t.pending) ∧
         (∀ q, (s.channels.get l).stop.serving = some q → ∀ k, slotOf s.book q = some k →
           ∀ n, (s.entry k).progress = some n →
             (Instr.stopGoEnd l ∈ t.pending ↔ msDone ∧ powerState s l ≠ .held ∧ n ≤ 1))) ∧
       (∀ p : Port,
         (Instr.timeout p ∈ t.pending ↔ (∃ held, (t.ports.get p).receive = .receiving held) ∧ LongGap t p) ∧
         (Instr.discardingQuietEnd p ∈ t.pending ↔ (t.ports.get p).receive = .discarding ∧ LongGap t p)) ∧
       ∀ c ∈ t.pending, commandFrame c = none)

/-! ### Resets -/

/-- The state after power-on, with no command waiting, at values that the chapters give for that reset (R6, R17, R40, R64,
R65, R80, R129, R131, R144, R162, R173, R193). The levels of the pins and straps are the model's (log entries 6 and 8). -/
def Obligations.ResetStateAsSpec : Prop :=
  let s := State.reset
  s.heat.phase = .idle ∧ s.heat.raceClock = 0 ∧ s.clock.stationTime = 0 ∧ s.heat.expiryTime = none ∧
  s.heat.finishReference = none ∧ s.heat.finishingStart = none ∧ s.heat.countdownStart = none ∧
  s.heat.resumeStart = none ∧ s.heat.resumeTarget = none ∧ s.heat.ending = none ∧ s.heat.expired = false ∧
  s.heat.lampsLit = 0 ∧ s.heat.trackCall = ⟨none, none, none, 0⟩ ∧ s.heat.jumpMarks = Lanes.all false ∧
  s.heat.red = ⟨false, false, false, false, false⟩ ∧ s.heat.greenLit = false ∧
  s.staging =
    { heatMode := .timedFreeze, heatTime := 300, lapTarget := 50, grace := 60, lanesEnabled := Lanes.all true,
      driverTags := Lanes.all 0, sectorUse := .off, lockout := 200, nominalLap := 10, resolution := .ms1,
      rounding := .nearestEven, clockUnderCall := .hold, confirmMarshalCalls := false, confirmWindow := 20,
      adjudicationWindow := 30, mergeWindow := 3, jumpKind := .stopGo, jumpAmount := 5, escalationThreshold := 0,
      cleanLapReset := 10, escalationCapLaps := 3, capDuty := 60, pwmFrequency := .khz8, deadTime := 4,
      retryDelay := 1000, resumeCountdown := 3, greenDelay := 500, detectorFilter := true, edgeLine := .leading,
      edgeSector := .leading, stuckLimit := 2000 } ∧
  s.order = [] ∧ s.queue = [] ∧ s.queueSeq = 1 ∧
  s.book.slots.length = 16 ∧ (∀ k, (s.entry k).tag = .empty) ∧ s.book.nextSeq = 1 ∧ s.book.dropped = 0 ∧
  (∀ l : Lane,
    (s.lane l).status = .out ∧ (s.lane l).laps = 0 ∧ (s.lane l).deducted = 0 ∧ (s.lane l).timePenalty = 0 ∧
    (s.lane l).position = 0 ∧ (s.lane l).history = [] ∧ (s.lane l).driverTag = 0 ∧ (s.lane l).bestLap = none ∧
    (s.lane l).fraction = none ∧ (s.lane l).referenceLap = 1000000 ∧ (s.lane l).score = 0 ∧
    (∀ k : DetKind, (s.detector l k).state = .disabled ∧ (s.detector l k).promoted = false ∧
      (s.detector l k).faultReason = none ∧ (s.detector l k).suspectCount = 0 ∧ (s.detector l k).crossingCount = 0 ∧
      (s.detector l k).lastCapture = none ∧ (s.detector l k).brokenStart = none) ∧
    s.contexts.get l = ⟨false, none, false, false, false⟩ ∧ s.deslots.get l = ⟨0, 0, none⟩ ∧
    s.channels.get l = ⟨⟨[], none⟩, ⟨[], none⟩⟩ ∧ (s.lamps.get l).lit = false ∧
    (s.power.get l).drive = false ∧ (s.power.get l).brake = false ∧ (s.power.get l).tripped = false ∧
    (s.power.get l).locked = false ∧ (s.power.get l).retryCount = 0) ∧
  (∀ k : ExcKind, s.exceptions.get k = ⟨false, true, 0, none⟩) ∧ faultOutput s = false ∧
  (∀ p : Port,
    (s.ports.get p).receive = .waiting ∧ (s.ports.get p).window = none ∧ (s.ports.get p).snapshot = none ∧
    (s.ports.get p).alerts = {} ∧ (s.ports.get p).counterClass = .frameErrors ∧ (s.ports.get p).counter = 0 ∧
    (s.ports.get p).transmitEnable = false ∧ alertLine s p = false) ∧
  s.role .p0 = .control

/-- POWER_ON brings the part to the state after power-on and samples the straps; a low role strap makes a port MARSHAL, a
high one DISPLAY, port 0 is CONTROL, and each port's alert mask takes its role's default (R64, R174, R189). The reset pin
resets the part with the straps in force kept, holds it while asserted, and samples the straps at its release, which gives
the ports their roles (R64, R129, R174). RESET PART naming CLEAR is answered with the choice 1 before it acts; when its
response has been sent, every block is as after power-on with the straps in force kept (R191). The model's own readings here:
waiting commands and pin levels are kept (log entry 8), the held part takes no command (log entry 9), EMPTY book slots keep
their other fields (log entry 10), and RESPONSE_SENT on port 0 and RESET_PART_TAKEN both take the reset (log entry 14). -/
def Obligations.ResetsRestartThePart : Prop :=
  (∀ (x : Straps) (s : State),
    exec (.powerOn x) s = .next { State.reset with
      pending := s.pending
      pins := { s.pins with straps := x }
      straps := x
      ports := resetPorts x }) ∧
  (∀ x : Straps,
    portRole x .p0 = .control ∧ portRole x .p1 = (if x.role1 then .display else .marshal) ∧
    portRole x .p2 = (if x.role2 then .display else .marshal) ∧
    portRole x .p3 = (if x.role3 then .display else .marshal)) ∧
  (∀ (x : Straps) (p : Port),
    ((resetPorts x).get p).receive = .waiting ∧ ((resetPorts x).get p).window = none ∧
    ((resetPorts x).get p).snapshot = none ∧ ((resetPorts x).get p).alerts = {} ∧
    ((resetPorts x).get p).counterClass = .frameErrors ∧ ((resetPorts x).get p).counter = 0 ∧
    ((resetPorts x).get p).transmitEnable = false ∧
    ((resetPorts x).get p).alertMask =
      match portRole x p with
      | .control => ⟨true, true, true, true, true, true, true⟩
      | .marshal => { phase := true, trackCall := true, penalty := true }
      | .display => { order := true, lap := true, phase := true }) ∧
  (∀ s : State,
    exec .resetPin s = .next { State.reset with
      pending := s.pending
      pins := { s.pins with reset := true }
      straps := s.straps
      ports := resetPorts s.straps
      book := ⟨s.book.slots.map (fun e => { e with tag := .empty }), 1, 0, []⟩ }) ∧
  (∀ (x : Straps) (s : State), s.pins.reset = true →
    exec (.resetPinRelease x) s = .next { s with
      pins := { s.pins with straps := x, reset := false }
      straps := x
      ports := resetPorts x }) ∧
  (∀ (c : Instr) (s : State), s.pins.reset = true →
    (∀ x, c ≠ .powerOn x) → c ≠ .resetPin → (∀ x, c ≠ .resetPinRelease x) → exec c s = .next s) ∧
  (∀ s : State, s.pins.reset = true → s.pending = [] → step s = .next s) ∧
  (∀ (p : Port) (s : State), Ready s p → s.role p = .control →
    exec (.resetPartClear p) s = .next { s with
      pendingReset := some .clear
      ports := portsAnswered p 27 ⟨.done, 1⟩ [] none s }) ∧
  (∀ (c : Instr) (s : State), s.pins.reset = false → s.pendingReset = some .clear →
    (c = .resetPartTaken ∨ (c = .responseSent .p0 ∧ (s.ports.get .p0).receive = .answering)) →
    exec c s = .next { State.reset with
      pending := s.pending
      pins := s.pins
      straps := s.straps
      ports := resetPorts s.straps
      book := ⟨s.book.slots.map (fun e => { e with tag := .empty }), 1, 0, []⟩ })

/-- RESET PART naming KEEP is answered with the choice 2 before it acts. When its response has been sent, the official record
is kept: staging, race clock, expiry and finish times, track-call record and jump marks, detector records, exception records,
book, counts and lanes, but for what follows. A heat in progress becomes ENDED with ending ABORTED and its channels are
closed; CALLED entries are WAIVED with LAPSED; the adjudication queue is emptied, its entries settled by default, oldest
first, as so many deadlines would settle them in the state that the rest of the reset leaves; where it held none, a lane
keeps its status, laps, times and history, and the contexts stay. Station time, the starts measured in it, start lamps, lane
lamps, input filters, outputs, trips, merge marks and ports are as after a reset (R6, R38, R64, R129, R131, R140, R144, R162,
R173, R191, R193). The premise on the queue is an invariant of the part (`HeatFieldsAgreeWithPhase`), those on book and
channels are `NumbersStayInOrder` and `ChannelsHoldOpenEntries`; the order of the steps is log entry 26, that RESPONSE_SENT
on port 0 and RESET_PART_TAKEN both take the reset log entry 14, the filters before the first sample log entry 7, the absent
PWM phase log entry 38. -/
def Obligations.ResetPartKeep : Prop :=
  (∀ (p : Port) (s : State), Ready s p → s.role p = .control →
    exec (.resetPartKeep p) s = .next { s with
      pendingReset := some .keep
      ports := portsAnswered p 27 ⟨.done, 2⟩ [] none s }) ∧
  (∀ s : State, s.pins.reset = false → s.pendingReset = some .keep →
    (s.phase = .idle ∨ s.phase = .staged → s.queue = []) →
    let cut := s.phase ≠ .idle ∧ s.phase ≠ .staged ∧ s.phase ≠ .ended
    ∃ t, exec .resetPartTaken s = .next t ∧
      t.pins = s.pins ∧ t.straps = s.straps ∧ t.staging = s.staging ∧ t.clock = Clock.reset ∧ t.pendingReset = none ∧
      t.ports = resetPorts s.straps ∧ t.supply = ⟨false, 0⟩ ∧
      t.heat.phase = (if s.phase = .idle ∨ s.phase = .staged then s.phase else .ended) ∧
      t.heat.ending =
        (if s.phase = .idle ∨ s.phase = .staged ∨ s.phase = .ended then s.heat.ending else some .aborted) ∧
      t.heat.raceClock = s.heat.raceClock ∧ t.heat.expiryTime = s.heat.expiryTime ∧
      t.heat.finishReference = s.heat.finishReference ∧ t.heat.trackCall = s.heat.trackCall ∧
      t.heat.jumpMarks = s.heat.jumpMarks ∧ t.heat.finishingStart = none ∧ t.heat.countdownStart = none ∧
      t.heat.resumeStart = none ∧ t.heat.lampsLit = 0 ∧ t.heat.red = ⟨false, false, false, false, false⟩ ∧
      t.heat.greenLit = false ∧ (cut → t.heat.resumeTarget = none ∧ t.heat.expired = false) ∧
      t.queue = [] ∧ t.queueSeq = s.queueSeq ∧ t.book.nextSeq = s.book.nextSeq ∧ t.book.dropped = s.book.dropped ∧
      (NumbersDiffer s → ChannelsAgree s → ∀ k,
        ((s.entry k).tag = .empty ∨ (s.entry k).tag = .served ∨ (s.entry k).tag = .waived → t.entry k = s.entry k) ∧
        (k < 16 → (s.entry k).tag = .called → t.entry k = { s.entry k with
          tag := .waived
          closeTime := some s.heat.raceClock
          outcomes := { (s.entry k).outcomes with lapsed := true } }) ∧
        (¬ cut → s.queue = [] → (s.entry k).tag = .active ∨ (s.entry k).tag = .serving → t.entry k = s.entry k)) ∧
      (∀ k : ExcKind, (t.exceptions.get k).mask = (s.exceptions.get k).mask ∧
        ((s.exceptions.get k).flag = true → (t.exceptions.get k).flag = true)) ∧
      (∀ l : Lane,
        (t.lane l).driverTag = (s.lane l).driverTag ∧ min 65535 (s.lane l).laps ≤ (t.lane l).laps ∧
        min 4294967295 (s.lane l).timePenalty ≤ (t.lane l).timePenalty ∧ (t.lane l).deducted = (s.lane l).deducted ∧
        t.deslots.get l = { s.deslots.get l with mark := none } ∧
        t.power.get l =
          { drive := false, brake := false, driveOff := 0, brakeOff := 0, onTime := none, pulsing := false
            tripped := false, locked := false, retryCount := 0, retryDelayEnd := none, retryWatch := none
            watchStarted := false, driveOnRun := 0, overcurrent := false, overcurrentRun := 0 } ∧
        (t.heat.phase ≠ .staged → t.lamps.get l = ⟨.off, false, 0⟩) ∧
        (t.heat.phase = .staged → (t.lamps.get l).condition = lampCondition t l) ∧
        (∀ k : DetKind, t.detector l k = { s.detector l k with
          brokenStart := none, broken := false, runCount := 0, runRaceClock := 0, runStationTime := 0
          watchExpired := false }) ∧
        (cut → t.channels.get l = ⟨⟨[], none⟩, ⟨[], none⟩⟩ ∧
          (s.queue = [] → NumbersDiffer s → ChannelsAgree s → ClosedWithLane s t l)) ∧
        (s.queue = [] →
          (t.lane l).status = (s.lane l).status ∧ (t.lane l).laps = (s.lane l).laps ∧
          (t.lane l).lastCrossing = (s.lane l).lastCrossing ∧ (t.lane l).lastLap = (s.lane l).lastLap ∧
          (t.lane l).bestLap = (s.lane l).bestLap ∧ (t.lane l).bestNumber = (s.lane l).bestNumber ∧
          (t.lane l).timedCount = (s.lane l).timedCount ∧ (t.lane l).timedSum = (s.lane l).timedSum ∧
          (t.lane l).averageLap = (s.lane l).averageLap ∧ (t.lane l).split = (s.lane l).split ∧
          (t.lane l).fraction = (s.lane l).fraction ∧ (t.lane l).finishTime = (s.lane l).finishTime ∧
          (t.lane l).history = (s.lane l).history)) ∧
      (∃ t0 v, exec .resetPartTaken { s with queue := [] } = .next t0 ∧
        execAll (List.replicate s.queue.length .adjudicationDeadline)
          { t0 with queue := s.queue, staging := { s.staging with adjudicationWindow := 0 } } = .next v ∧
        t.lanes = v.lanes ∧ t.order = v.order ∧ t.contexts = v.contexts ∧ t.book = v.book ∧ t.channels = v.channels ∧
        t.exceptions = v.exceptions ∧ t.heat = v.heat) ∧
      ((s.ports.get .p0).receive = .answering → exec (.responseSent .p0) s = .next t) ∧
      (s.queue = [] → t.contexts = s.contexts) ∧
      (¬ cut → s.queue = [] →
        t.lanes = s.lanes ∧ t.order = s.order ∧ t.contexts = s.contexts ∧ t.channels = s.channels))

/-! ### Frames, bytes and responses -/

/-- Five bytes received with good stop bits at a waiting port are the command that their frame spells, check byte included;
and the frame of every well-formed request command spells that command (R176, R179, R196). A DETECTOR RESTORE or RESET PART
frame whose parameter names no choice spells no command of the table: its five bytes are refused with UNKNOWN_REQUEST, after
the role check (R191, R196). That the fifth byte takes the frame in the same step is log entry 12. -/
def Obligations.BytesSpellTheCommand : Prop :=
  (∀ (p : Port) (f : Frame) (c : Instr) (s : State), Ready s p → frameCommand p f = some c →
    execAll ((Frame.bytes f).map (Instr.byteReceived p)) s = exec c s) ∧
  (∀ (c : Instr) (p : Port) (f : Frame), c.wellFormed = true → commandFrame c = some (p, f) →
    frameCommand p f = some c) ∧
  (∀ (p : Port) (f : Frame) (s : State), Ready s p →
    f.code + f.selector + f.paramHigh + f.paramLow + f.check = 0 →
    (f.code = 19 ∧ 2 ≤ f.paramHigh.toNat * 256 + f.paramLow.toNat ∨
      f.code = 27 ∧ f.paramHigh.toNat * 256 + f.paramLow.toNat ∉ [1, 2]) →
    execAll ((Frame.bytes f).map (Instr.byteReceived p)) s = .next { s with
      ports := portsRefused p f.code (if s.role p = .control then .unknownRequest else .role) s })

/-- A frame with a bad check byte is refused with FRAME_CHECK and counted as a frame error of its port; a code that names no
request is refused with UNKNOWN_REQUEST, whatever the role (R179, R190, R196). A request that the port's role does not permit
is refused with ROLE, whatever the phase, and changes nothing but the ports: a MARSHAL port may send TRACK CALL, CALL and
DESLOT beside the requests of a DISPLAY port, which are POINT, READ, READ ALERTS, SET ALERT MASK, SELECT COUNTER, READ
COUNTER and IDENTIFY (R181, R196 for the codes). -/
def Obligations.BadFramesAndRolesRefused : Prop :=
  (∀ (p : Port) (f : Frame) (s : State), Ready s p →
    f.code + f.selector + f.paramHigh + f.paramLow + f.check ≠ 0 →
    exec (.frameCheck p f) s = .next { s with
      ports :=
        let x := portsRefused p f.code .frameCheck s
        x.set p (errorCounted (x.get p)) }) ∧
  (∀ (p : Port) (code : Byte) (s : State), Ready s p → code = 0 ∨ 29 ≤ code.toNat →
    exec (.unknownRequest p code) s = .next { s with ports := portsRefused p code .unknownRequest s }) ∧
  (∀ (c : Instr) (p : Port) (f : Frame) (s : State), commandFrame c = some (p, f) → Ready s p →
    (∀ g, c ≠ .frameCheck p g) → (∀ code, c ≠ .unknownRequest p code) →
    (s.role p = .marshal ∧ f.code.toNat ∉ [1, 2, 7, 11, 14, 23, 24, 25, 26, 28] ∨
      s.role p = .display ∧ f.code.toNat ∉ [1, 2, 23, 24, 25, 26, 28]) →
    exec c s = .next { s with ports := portsRefused p f.code .role s })

/-- A refused request changes nothing but the ports, and its data is 0; the one exception is a CALL refused with BOOK_FULL,
which also raises BOOK (R179, R180, R122). -/
def Obligations.RefusalChangesNothing : Prop :=
  ∀ (c : Instr) (p : Port) (f : Frame) (s t : State) (r : Reason) (code : Byte) (data : Word),
    c.wellFormed = true → commandFrame c = some (p, f) → Ready s p → exec c s = .next t →
    (t.ports.get p).response = some ⟨.refused r, code, data⟩ →
    data = 0 ∧ { t with ports := s.ports, exceptions := s.exceptions } = s ∧
      (r ≠ .bookFull → t.exceptions = s.exceptions)

/-- A byte with a good stop bit begins a frame in WAITING, is added in RECEIVING, is an overrun in ANSWERING and is dropped
in DISCARDING; after a gap of 6 ms or more it begins a frame anew, a partial frame being counted as a timeout (log entry 28).
It changes nothing but its own port (R176, R177, R178). A missing stop bit, a timeout, a quiet line and an overrun change
only their own port, by its receive state and its frame-error count (R177, R178, R190). When the last stop bit of a response
is out, the port waits, or discards if bytes overran it, and drops its transmit enable; no other state changes (R175, R176,
R178; log entry 13). Where a RESET PART response ends, `ResetsRestartThePart` and `ResetPartKeep` say what follows. -/
def Obligations.BytesAndLineErrors : Prop :=
  (∀ (p : Port) (b : Byte) (s : State), s.pins.reset = false →
    let x := s.ports.get p
    (x.receive = .waiting →
      exec (.byteReceived p b) s = .next { s with
        ports := s.ports.set p { x with receive := .receiving [b], lastByte := some s.now } }) ∧
    (∀ held, x.receive = .receiving held → held.length < 4 → ¬ LongGap s p →
      exec (.byteReceived p b) s = .next { s with
        ports := s.ports.set p { x with receive := .receiving (held ++ [b]), lastByte := some s.now } }) ∧
    (∀ held, x.receive = .receiving held → LongGap s p →
      exec (.byteReceived p b) s = .next { s with
        ports := s.ports.set p { errorCounted x with receive := .receiving [b], lastByte := some s.now } }) ∧
    (x.receive = .answering →
      exec (.byteReceived p b) s = .next { s with
        ports := s.ports.set p { errorCounted x with overrun := true, lastByte := some s.now } }) ∧
    (x.receive = .discarding → ¬ LongGap s p →
      exec (.byteReceived p b) s = .next { s with ports := s.ports.set p { x with lastByte := some s.now } }) ∧
    (x.receive = .discarding → LongGap s p →
      exec (.byteReceived p b) s = .next { s with
        ports := s.ports.set p { x with receive := .receiving [b], lastByte := some s.now } })) ∧
  (∀ (p : Port) (s : State), s.pins.reset = false →
    let x := s.ports.get p
    (x.receive = .waiting ∨ ((∃ held, x.receive = .receiving held) ∨ x.receive = .discarding) ∧ ¬ LongGap s p →
      exec (.framingError p) s = .next { s with
        ports := s.ports.set p { errorCounted x with receive := .discarding, lastByte := some s.now } }) ∧
    (∀ held, x.receive = .receiving held → LongGap s p →
      exec (.timeout p) s = .next { s with ports := s.ports.set p { errorCounted x with receive := .waiting } }) ∧
    (x.receive = .discarding → LongGap s p →
      exec (.discardingQuietEnd p) s = .next { s with ports := s.ports.set p { x with receive := .waiting } }) ∧
    (x.receive = .answering →
      exec (.overrun p) s = .next { s with
        ports := s.ports.set p { errorCounted x with overrun := true, lastByte := some s.now } } ∧
      exec (.framingError p) s = exec (.overrun p) s)) ∧
  (∀ (p : Port) (s : State), s.pins.reset = false → (p ≠ .p0 ∨ s.pendingReset = none) →
    (s.ports.get p).receive = .answering →
    exec (.responseSent p) s = .next { s with
      ports := s.ports.set p
        { s.ports.get p with
          receive := if (s.ports.get p).overrun then .discarding else .waiting
          overrun := false
          response := none
          transmitEnable := false } })

/-- What arrives at one port never touches the receiver, window, snapshot, masks or response of another; of another port's
state only alert items join and the counter moves (R176, R181, R186). A DISPLAY port only reads: whatever bytes, errors or
frames arrive at it, and whatever request they spell, nothing of the part changes but the ports (R181). -/
def Obligations.PortsActApart : Prop :=
  (∀ (c : Instr) (p q : Port) (s t : State), commandPort c = some p → q ≠ p →
    (∀ r, c = .responseSent r → s.pendingReset = none) → exec c s = .next t →
    let x := s.ports.get q
    let y := t.ports.get q
    y.receive = x.receive ∧ y.lastByte = x.lastByte ∧ y.overrun = x.overrun ∧ y.response = x.response ∧
    y.transmitEnable = x.transmitEnable ∧ y.window = x.window ∧ y.snapshot = x.snapshot ∧
    y.alertMask = x.alertMask ∧ y.counterClass = x.counterClass ∧
    (∀ a : Alert, x.alerts.has a = true → y.alerts.has a = true) ∧ min 255 x.counter ≤ y.counter) ∧
  (∀ (c : Instr) (p : Port) (s t : State), commandPort c = some p → s.role p = .display → exec c s = .next t →
    { t with ports := s.ports } = s)

/-! ### The window, alerts and counters -/

/-- POINT by record index sets the window and copies the whole record it names into the port's snapshot, and answers the word
pointed at; by sequence number it finds the slot or queue place that holds the number. A mode that is none of the three is
refused with UNKNOWN_REQUEST, before anything else of the frame (log entry 30), a space, record or word that does not exist,
or a number that is not held, with NO_ENTRY; the window then stays (R184, R186, R196). READ answers the snapshot word at the
window's word index. In STEADY and STEP_ON_WRITE the window stays; in STEP it moves on one word, past a record's last word to
word 0 of the next record, and from the last record to the first, copying the record it lands in. Before the first POINT it
is refused with NO_ENTRY (R183, R185, R186). The words of the records are those of `RecordsFollowTheirLayouts`. -/
def Obligations.WindowReadsRecords : Prop :=
  (∀ (p : Port) (selector : Byte) (parameter : Word) (s : State) (space : Space) (m : Mode) (k w : Nat), Ready s p →
    let asked : State := { s with
      ports := s.ports.set p { s.ports.get p with receive := .answering, lastByte := some s.now, overrun := false } }
    let pointed (x : Window) : State :=
      let words := recordWords asked p x
      let y := portsAnswered p 1 ⟨.done, words[x.word]?.getD 0⟩ [] none s
      { s with
        ports := y.set p { y.get p with window := some x, snapshot := some ⟨words, s.heat.raceClock, s.now⟩ } }
    (selector.toNat = space.code + 16 * m.code → parameter.toNat = 256 * k + w → k < space.recordCount →
      w < space.wordCount → exec (.point p selector parameter) s = .next (pointed ⟨space, k, w, m⟩)) ∧
    (selector.toNat = Space.book.code + 16 * m.code + 64 → slotOf s.book parameter.toNat = some k →
      exec (.point p selector parameter) s = .next (pointed ⟨.book, k, 0, m⟩)) ∧
    (selector.toNat = Space.adjudication.code + 16 * m.code + 64 →
      s.queue.findIdx? (fun x => x.seq == parameter.toNat) = some k →
      exec (.point p selector parameter) s = .next (pointed ⟨.adjudication, k, 0, m⟩)) ∧
    (selector.toNat / 16 % 4 = 3 →
      exec (.point p selector parameter) s = .next { s with ports := portsRefused p 1 .unknownRequest s }) ∧
    (selector.toNat = space.code + 16 * m.code → parameter.toNat = 256 * k + w → w < 256 →
      space.recordCount ≤ k ∨ space.wordCount ≤ w →
      exec (.point p selector parameter) s = .next { s with ports := portsRefused p 1 .noEntry s }) ∧
    (selector.toNat = space.code + 16 * m.code + 64 →
      (space ≠ .book ∧ space ≠ .adjudication ∨
        space = .book ∧ slotOf s.book parameter.toNat = none ∨
        space = .adjudication ∧ ∀ x ∈ s.queue, x.seq ≠ parameter.toNat) →
      exec (.point p selector parameter) s = .next { s with ports := portsRefused p 1 .noEntry s }) ∧
    (128 ≤ selector.toNat → selector.toNat / 16 % 4 ≠ 3 →
      exec (.point p selector parameter) s = .next { s with ports := portsRefused p 1 .noEntry s })) ∧
  (∀ (p : Port) (s : State), Ready s p →
    (∀ (x : Window) (copy : Snapshot), (s.ports.get p).window = some x → (s.ports.get p).snapshot = some copy →
      let y := portsAnswered p 2 ⟨.done, copy.words[x.word]?.getD 0⟩ [] none s
      let asked : State := { s with
        ports := s.ports.set p { s.ports.get p with receive := .answering, lastByte := some s.now, overrun := false } }
      (x.mode ≠ .step → exec (.read p) s = .next { s with ports := y }) ∧
      (x.mode = .step → x.word + 1 < x.space.wordCount →
        exec (.read p) s = .next { s with
          ports := y.set p { y.get p with window := some { x with word := x.word + 1 } } }) ∧
      (x.mode = .step → x.space.wordCount ≤ x.word + 1 →
        let z : Window := { x with
          word := 0
          record := if x.record + 1 < x.space.recordCount then x.record + 1 else 0 }
        exec (.read p) s = .next { s with
          ports := y.set p { y.get p with
            window := some z
            snapshot := some ⟨recordWords asked p z, s.heat.raceClock, s.now⟩ } })) ∧
    ((s.ports.get p).window = none → exec (.read p) s = .next { s with ports := portsRefused p 2 .noEntry s }))

/-- Every word of every record that a window can point at, by the layouts of chapter 11: each space's code, records and words
per record, and in each word the field the layout names, in the encoding of R194: numbers in one word or in two with the high
word first, net laps in two's complement, named values by their position in their list, sets and presence words with the
first member in bit 0, absent fields as all ones, and a HISTORY or ADJUDICATION record beyond the last entry as R195 gives
(R183, R194, R195; the lists that give the codes are log entry 24). -/
def Obligations.RecordsFollowTheirLayouts : Prop :=
  (∀ (s : State) (p : Port) (w : Window),
    let size : Nat × Nat × Nat :=
      match w.space with
      | .lanes => (0, 8, 54) | .history l => (l.num, 32, 13) | .book => (9, 16, 21) | .order => (10, 1, 18)
      | .adjudication => (11, 8, 10) | .detectors => (12, 16, 10) | .exceptions => (13, 6, 14) | .staging => (14, 1, 64)
      | .ports => (15, 1, 16)
    (w.space.code, w.space.recordCount, w.space.wordCount) = size ∧ (recordWords s p w).length = size.2.2) ∧
  (∀ (s : State) (p : Port) (l : Lane) (i : Nat) (m : Mode),
    let ws := recordWords s p ⟨.lanes, l.num - 1, i, m⟩
    let r := s.lane l
    let x := s.power.get l
    let st := s.staging
    let net : Int := (r.laps : Int) - r.deducted
    HasWord ws 0 l.num ∧ HasWord ws 1 r.driverTag ∧
    HasWord ws 2 ([LaneStatus.out, .grid, .running, .finished, .stoodDown].idxOf r.status) ∧ HasWord ws 3 r.position ∧
    HasSet ws 4 [r.lastLap.isSome, r.bestLap.isSome, r.bestNumber.isSome, r.averageLap.isSome, r.split.isSome,
      r.fraction.isSome, r.finishTime.isSome, x.retryDelayEnd.isSome] ∧
    HasWord ws 5 r.laps ∧ HasWord ws 6 r.deducted ∧ HasPair ws 7 (net % 4294967296).toNat ∧ HasWord ws 9 net.toNat ∧
    HasPair ws 10 r.timePenalty ∧ HasPair ws 12 r.lastCrossing ∧ HasTimes st ws 14 r.lastLap ∧
    HasTimes st ws 18 r.bestLap ∧ HasField ws 22 r.bestNumber ∧ HasWord ws 23 r.timedCount ∧ HasPair ws 24 r.timedSum ∧
    HasWide ws 26 r.averageLap ∧ HasTimes st ws 28 r.split ∧ HasField ws 32 r.fraction ∧ HasPair ws 33 r.referenceLap ∧
    HasPair ws 35 r.penaltyHundredths ∧ HasPair ws 37 r.score ∧ HasTimes st ws 39 (some r.adjustedTime) ∧
    HasTimes st ws 43 r.finishTime ∧ HasSet ws 47 [r.deadHeat, r.fallback, r.rebasePending, r.timingLost] ∧
    HasWord ws 48 (s.deslots.get l).count ∧ HasWord ws 49 (s.deslots.get l).clean ∧
    HasWord ws 50 ([PowerState.tripped, .off, .held, .cut, .capped, .full].idxOf (powerState s l)) ∧
    HasSet ws 51 [x.drive, x.brake, x.tripped, x.locked, x.overcurrent] ∧ HasWord ws 52 x.retryCount ∧
    HasField ws 53 (x.retryDelayEnd.map fun e => elapsed e s.now)) ∧
  (∀ (s : State) (p : Port) (l : Lane) (k i : Nat) (m : Mode),
    let ws := recordWords s p ⟨.history l, k, i, m⟩
    let st := s.staging
    (∀ x, (s.lane l).history[k]? = some x →
      HasWord ws 0 x.number ∧
      HasSet ws 1 [x.flags.standing, x.flags.underCall, x.flags.penaltyLap, x.flags.capped, x.flags.fallback,
        x.flags.adjudicated, x.flags.credited, x.flags.noSector, x.flags.best, x.flags.final] ∧
      HasSet ws 2 [true, x.lapTime.isSome, x.split.isSome] ∧ HasPair ws 3 x.closeTime ∧ HasTimes st ws 5 x.lapTime ∧
      HasTimes st ws 9 x.split) ∧
    ((s.lane l).history[k]? = none →
      HasField ws 0 none ∧ HasWord ws 1 0 ∧ HasSet ws 2 [] ∧ HasPair ws 3 0 ∧ HasTimes st ws 5 none ∧
      HasTimes st ws 9 none)) ∧
  (∀ (s : State) (p : Port) (k i : Nat) (m : Mode),
    let ws := recordWords s p ⟨.book, k, i, m⟩
    let e := s.entry k
    let held := e.tag != .empty
    HasWord ws 0 k ∧ HasWord ws 1 ([Tag.empty, .called, .active, .serving, .served, .waived].idxOf e.tag) ∧
    HasField ws 2 (if held then some e.seq else none) ∧ HasWord ws 3 e.lane.num ∧
    HasWord ws 4 ([Kind.warning, .stopGo, .timeAdd, .lapDeduct, .powerCap, .standdown].idxOf e.kind) ∧
    HasWord ws 5 e.amount ∧
    HasWord ws 6
      (match e.origin with
        | .control => 0
        | .marshal q => q.num * 256 + 1
        | .jumpStart => 2
        | .deslotEscalation => 3) ∧
    HasWord ws 7 e.mergeCount ∧
    HasSet ws 8 [e.outcomes.lapsed, e.outcomes.converted, e.outcomes.truncated, e.outcomes.unserved] ∧
    HasSet ws 9 [held, e.activationTime.isSome, e.closeTime.isSome, e.progress.isSome] ∧
    HasPair ws 10 e.callTime ∧ HasPair ws 12 e.callStation.toNat ∧ HasWide ws 14 e.activationTime ∧
    HasWide ws 16 e.closeTime ∧ HasWide ws 18 e.progress ∧ HasWord ws 20 s.book.dropped) ∧
  (∀ (s : State) (p : Port) (k i : Nat) (m : Mode),
    let ws := recordWords s p ⟨.adjudication, k, i, m⟩
    (∀ x, s.queue[k]? = some x →
      HasWord ws 0 x.seq ∧ HasWord ws 1 x.lane.num ∧ HasWord ws 2 ([DetKind.line, .sector].idxOf x.kind) ∧
      HasWord ws 3 ([SuspectReason.tooSoon, .noSector].idxOf x.reason) ∧ HasWord ws 4 x.superseded.toNat ∧
      HasSet ws 5 [true] ∧ HasPair ws 6 x.capture ∧ HasPair ws 8 x.arrival.toNat) ∧
    (s.queue[k]? = none →
      HasField ws 0 none ∧ HasPair ws 1 0 ∧ HasPair ws 3 0 ∧ HasSet ws 5 [] ∧ HasPair ws 6 0 ∧ HasPair ws 8 0)) ∧
  (∀ (s : State) (p : Port) (l : Lane) (kind : DetKind) (i : Nat) (m : Mode),
    let ws := recordWords s p ⟨.detectors, l.num - 1 + 8 * [DetKind.line, .sector].idxOf kind, i, m⟩
    let d := s.detector l kind
    HasWord ws 0 ([DetState.disabled, .inService, .faulted, .out].idxOf d.state) ∧ HasWord ws 1 d.promoted.toNat ∧
    HasField ws 2 (d.faultReason.map fun f => [FaultReason.stuck, .erratic].idxOf f) ∧ HasWord ws 3 d.suspectCount ∧
    HasSet ws 4 [d.faultReason.isSome, d.lastCapture.isSome, d.brokenStart.isSome] ∧ HasWide ws 5 d.lastCapture ∧
    HasWord ws 7 d.crossingCount ∧ HasWide ws 8 (d.brokenStart.map BitVec.toNat)) ∧
  (∀ (s : State) (p : Port) (k i : Nat) (m : Mode),
    let ws := recordWords s p ⟨.order, k, i, m⟩
    HasWord ws 0 s.order.length ∧ (∀ j < 8, HasField ws (1 + j) (s.order[j]?.map Lane.num)) ∧
    (∀ l : Lane, HasWord ws (8 + l.num) (s.lane l).position) ∧
    HasSet ws 17 (Lane.all.map fun l => (s.lane l).deadHeat)) ∧
  (∀ (s : State) (p : Port) (kind : ExcKind) (i : Nat) (m : Mode),
    let kinds := [ExcKind.suspect, .detector, .overcurrent, .supply, .book, .saturation]
    let ws := recordWords s p ⟨.exceptions, kinds.idxOf kind, i, m⟩
    let r := s.exceptions.get kind
    let code (d : Detail) : Nat :=
      match d with
      | .tooSoon | .stuck | .trip | .low | .refused | .lapsCounted => 0
      | .noSector | .erratic | .retryFailed | .lost | .lapsDeducted => 1
      | .locked | .timePenalty => 2
      | .adjustedTime => 3
    let source (x : Source) : Nat :=
      match x with
      | .detector .line => 0
      | .detector .sector => 1
      | .port q => 16 + q.num
      | .jumpStart => 32
      | .deslotEscalation => 33
    let lane := r.capture.bind Capture.lane
    let from' := r.capture.bind Capture.source
    HasWord ws 0 r.flag.toNat ∧ HasWord ws 1 r.mask.toNat ∧ HasWord ws 2 r.repeatCount ∧
    HasField ws 3 (r.capture.map fun x => code x.detail) ∧ HasField ws 4 (lane.map Lane.num) ∧
    HasField ws 5 (from'.map source) ∧
    HasSet ws 6 [r.capture.isSome, lane.isSome, from'.isSome, r.capture.isSome, r.capture.isSome] ∧
    HasWide ws 7 (r.capture.map Capture.raceClock) ∧ HasWide ws 9 (r.capture.map fun x => x.stationTime.toNat) ∧
    HasWord ws 11 (faultOutput s).toNat ∧
    HasSet ws 12 (kinds.map fun x => (s.exceptions.get x).flag && !(s.exceptions.get x).mask) ∧
    HasWord ws 13 (if kind = .supply then s.supply.low.toNat else 0)) ∧
  (∀ (s : State) (p : Port) (k i : Nat) (m : Mode),
    let ws := recordWords s p ⟨.staging, k, i, m⟩
    let st := s.staging
    HasWord ws 0 ([HeatMode.timedFreeze, .timedRunToLine, .lapTarget].idxOf st.heatMode) ∧ HasWord ws 1 st.heatTime ∧
    HasWord ws 2 st.lapTarget ∧ HasWord ws 3 st.grace ∧ HasSet ws 4 (Lane.all.map st.lanesEnabled.get) ∧
    (∀ l : Lane, HasWord ws (4 + l.num) (st.driverTags.get l)) ∧
    HasWord ws 13 ([SectorUse.off, .splits, .confirm].idxOf st.sectorUse) ∧ HasWord ws 14 st.lockout ∧
    HasWord ws 15 st.nominalLap ∧ HasWord ws 16 ([Resolution.us10, .us100, .ms1, .ms10].idxOf st.resolution) ∧
    HasWord ws 17 ([Rounding.nearestEven, .down, .up].idxOf st.rounding) ∧
    HasWord ws 18 ([ClockPolicy.hold, .run].idxOf st.clockUnderCall) ∧ HasWord ws 19 st.confirmMarshalCalls.toNat ∧
    HasWord ws 20 st.confirmWindow ∧ HasWord ws 21 st.adjudicationWindow ∧ HasWord ws 22 st.mergeWindow ∧
    HasWord ws 23 ([JumpKind.warning, .stopGo, .timeAdd].idxOf st.jumpKind) ∧ HasWord ws 24 st.jumpAmount ∧
    HasWord ws 25 st.escalationThreshold ∧ HasWord ws 26 st.cleanLapReset ∧ HasWord ws 27 st.escalationCapLaps ∧
    HasWord ws 28 st.capDuty ∧ HasWord ws 29 ([PwmFrequency.khz4, .khz8, .khz16].idxOf st.pwmFrequency) ∧
    HasWord ws 30 st.deadTime ∧ HasWord ws 31 st.retryDelay ∧ HasWord ws 32 st.resumeCountdown ∧
    HasWord ws 33 st.greenDelay ∧ HasWord ws 34 st.detectorFilter.toNat ∧
    HasWord ws 35 ([DetectorEdge.leading, .trailing].idxOf st.edgeLine) ∧
    HasWord ws 36 ([DetectorEdge.leading, .trailing].idxOf st.edgeSector) ∧ HasWord ws 37 st.stuckLimit) ∧
  (∀ (s : State) (p : Port) (k i : Nat) (m : Mode),
    let ws := recordWords s p ⟨.staging, k, i, m⟩
    let h := s.heat
    let c := h.trackCall
    HasWord ws 38
      ([Phase.idle, .staged, .countdown, .green, .hold, .resuming, .finishing, .settling, .ended].idxOf h.phase) ∧
    HasField ws 39 (h.resumeTarget.map fun x => [ResumeTarget.green, .finishing].idxOf x) ∧
    HasWord ws 40 h.expired.toNat ∧
    HasField ws 41 (h.ending.map fun x => [Ending.settled, .allFinished, .grace, .aborted, .cappedClock].idxOf x) ∧
    HasPair ws 42 h.raceClock ∧ HasPair ws 44 s.now.toNat ∧ HasWide ws 46 h.expiryTime ∧ HasWide ws 48 h.finishReference ∧
    HasWide ws 50 (h.finishingStart.map BitVec.toNat) ∧ HasWide ws 52 (h.countdownStart.map BitVec.toNat) ∧
    HasWord ws 54 h.lampsLit ∧ HasWide ws 55 (h.resumeStart.map BitVec.toNat) ∧
    HasField ws 57 (c.origin.map fun o => match o with | .port q => q.num | .supply => 4) ∧ HasWide ws 58 c.raceClock ∧
    HasWide ws 60 (c.stationTime.map BitVec.toNat) ∧ HasWord ws 62 c.count ∧
    HasSet ws 63 [h.resumeTarget.isSome, h.ending.isSome, h.expiryTime.isSome, h.finishReference.isSome,
      h.finishingStart.isSome, h.countdownStart.isSome, h.resumeStart.isSome, c.origin.isSome, c.raceClock.isSome,
      c.stationTime.isSome]) ∧
  (∀ (s : State) (p : Port) (k i : Nat) (m : Mode),
    let ws := recordWords s p ⟨.ports, k, i, m⟩
    let x := s.ports.get p
    let items (a : AlertSet) : List Bool :=
      [a.order, a.lap, a.penalty, a.phase, a.adjudication, a.exception, a.trackCall]
    HasWord ws 0 p.num ∧ HasWord ws 1 ([Role.control, .marshal, .display].idxOf (s.role p)) ∧
    HasWord ws 2 (s.straps.baud1.toNat + 2 * s.straps.baud2.toNat) ∧
    HasWord ws 3
      (match x.receive with | .waiting => 0 | .receiving _ => 1 | .answering => 2 | .discarding => 3) ∧
    HasWord ws 4 15 ∧ HasWord ws 5 k ∧ HasWord ws 6 i ∧ HasWord ws 7 ([Mode.steady, .step, .stepOnWrite].idxOf m) ∧
    HasSet ws 8 (items x.alerts) ∧ HasSet ws 9 (items x.alertMask) ∧
    HasWord ws 10 ([CounterClass.frameErrors, .refusals, .laps, .suspects, .merges].idxOf x.counterClass) ∧
    HasWord ws 11 x.counter ∧ HasPair ws 12 s.heat.raceClock ∧ HasPair ws 14 s.now.toNat)

/-- WRITE stores a staging field in IDLE and, but for heat mode, lanes enabled and sector use, in STAGED; it answers the
value stored, writes it into the snapshot word, and steps the window in STEP and STEP_ON_WRITE. In STAGED a driver tag goes
to its lane record, a heat time sets T_e of a timed heat. Other phases are refused with WRONG_PHASE, words that are not
writable with READ_ONLY, a window not yet pointed with NO_ENTRY (R39, R187; R81, R87, R93, R96, R97 for the key change). A
nominal lap written in STAGED is a key change of every enabled lane: reference lap, penalty hundredths and score follow. That
no WRITE of the nominal lap, in IDLE or in STAGED, moves the reference lap of a lane that is not enabled, and so OUT, is the
model's choice, where R101 and R87 differ (log entry 34). -/
def Obligations.WriteStoresStagingField : Prop :=
  (∀ (p : Port) (v : Word) (s : State), Ready s p → s.role p = .control →
    (∀ (x : Window) (f : StagingField), (s.ports.get p).window = some x → x.space = .staging →
      stagingFields[x.word]? = some f →
      let st := s.staging.write f v
      let y := portsAnswered p 3 ⟨.done, st.read f⟩ [] none s
      let ports := y.set p { y.get p with
        window := some (if x.mode = .steady then x else { x with word := x.word + 1 })
        snapshot := (s.ports.get p).snapshot.map fun c => { c with words := c.words.set x.word (st.read f) } }
      let fixed := f = .heatMode ∨ f = .lanesEnabled ∨ f = .sectorUse
      (s.phase = .idle → exec (.write p v) s = .next { s with staging := st, ports := ports }) ∧
      (s.phase = .staged → ¬ fixed → f ≠ .nominalLap → f ≠ .heatTime → (∀ l, f ≠ .driverTag l) →
        exec (.write p v) s = .next { s with staging := st, ports := ports }) ∧
      (s.phase = .staged → f = .heatTime →
        exec (.write p v) s = .next { s with
          staging := st
          ports := ports
          heat := { s.heat with
            expiryTime := if s.staging.heatMode = .lapTarget then none else some (st.heatTime * 100000) } }) ∧
      (∀ l, s.phase = .staged → f = .driverTag l →
        exec (.write p v) s = .next { s with
          staging := st
          ports := ports
          lanes := s.lanes.set l { s.lanes.get l with driverTag := st.driverTags.get l } }) ∧
      ((s.phase ≠ .idle ∧ s.phase ≠ .staged) ∨ (s.phase = .staged ∧ fixed) →
        exec (.write p v) s = .next { s with ports := portsRefused p 3 .wrongPhase s })) ∧
    (∀ x : Window, (s.ports.get p).window = some x → x.space ≠ .staging ∨ 38 ≤ x.word →
      exec (.write p v) s = .next { s with ports := portsRefused p 3 .readOnly s }) ∧
    ((s.ports.get p).window = none → exec (.write p v) s = .next { s with ports := portsRefused p 3 .noEntry s })) ∧
  (∀ (p : Port) (v : Word) (s : State) (x : Window), Ready s p → s.role p = .control → s.phase = .staged →
    (s.ports.get p).window = some x → x.space = .staging → stagingFields[x.word]? = some .nominalLap →
    ∃ t, exec (.write p v) s = .next t ∧ t.staging = s.staging.write .nominalLap v ∧ t.heat = s.heat ∧
      t.book = s.book ∧ t.queue = s.queue ∧ t.channels = s.channels ∧ t.power = s.power ∧
      (t.ports.get p).response = some ⟨.done, 3, t.staging.read .nominalLap⟩ ∧
      (∀ l, s.staging.lanesEnabled.get l = true → (s.lane l).bestLap = none → (s.lane l).lastLap = none →
        (t.lane l).referenceLap = t.staging.nominalLap * 100000 ∧
        (t.lane l).penaltyHundredths = penaltyHundredthsOf (s.lane l).timePenalty (t.staging.nominalLap * 100000) ∧
        (t.lane l).score = scoreOf (s.lane l) (t.lane l).penaltyHundredths) ∧
      (∀ l, s.staging.lanesEnabled.get l = false → (t.lane l).referenceLap = (s.lane l).referenceLap ∧
        (t.lane l).penaltyHundredths = (s.lane l).penaltyHundredths ∧ (t.lane l).score = (s.lane l).score) ∧
      (∀ l, (t.lane l).laps = (s.lane l).laps ∧ (t.lane l).deducted = (s.lane l).deducted ∧
        (t.lane l).timePenalty = (s.lane l).timePenalty ∧ (t.lane l).status = (s.lane l).status ∧
        (t.lane l).lastCrossing = (s.lane l).lastCrossing ∧ (t.lane l).history = (s.lane l).history))

/-- A written value outside a field's range is replaced by the nearer limit; an enumerated field takes its highest value for
a code above it; the escalation threshold takes 0 or 2 to 15; the jump penalty amount takes the range of its kind, and a new
kind clamps the amount stored (R40, R41). -/
def Obligations.WrittenValuesAreClamped : Prop :=
  ∀ (st : Staging) (w : Word),
    let n := w.toNat
    let within (low high : Nat) : Nat := if n < low then low else if high < n then high else n
    (st.write .heatTime w).heatTime = within 10 36000 ∧ (st.write .lapTarget w).lapTarget = within 1 9999 ∧
    (st.write .grace w).grace = within 10 300 ∧ (∀ l, (st.write (.driverTag l) w).driverTags.get l = within 0 255) ∧
    (st.write .lockout w).lockout = within 75 3000 ∧ (st.write .nominalLap w).nominalLap = within 1 120 ∧
    (st.write .confirmWindow w).confirmWindow = within 5 120 ∧
    (st.write .adjudicationWindow w).adjudicationWindow = within 5 120 ∧
    (st.write .mergeWindow w).mergeWindow = within 0 10 ∧ (st.write .cleanLapReset w).cleanLapReset = within 1 50 ∧
    (st.write .escalationCapLaps w).escalationCapLaps = within 1 20 ∧ (st.write .capDuty w).capDuty = within 10 95 ∧
    (st.write .deadTime w).deadTime = within 1 63 ∧ (st.write .retryDelay w).retryDelay = within 250 5000 ∧
    (st.write .resumeCountdown w).resumeCountdown = within 0 10 ∧
    (st.write .greenDelay w).greenDelay = within 0 3000 ∧ (st.write .stuckLimit w).stuckLimit = within 500 10000 ∧
    (2 ≤ n → (st.write .heatMode w).heatMode = .lapTarget ∧ (st.write .sectorUse w).sectorUse = .confirm ∧
      (st.write .rounding w).rounding = .up ∧ (st.write .pwmFrequency w).pwmFrequency = .khz16 ∧
      (st.write .jumpKind w).jumpKind = .timeAdd) ∧
    (3 ≤ n → (st.write .resolution w).resolution = .ms10) ∧
    (1 ≤ n → (st.write .clockUnderCall w).clockUnderCall = .run ∧ (st.write .edgeLine w).edgeLine = .trailing ∧
      (st.write .edgeSector w).edgeSector = .trailing ∧ (st.write .confirmMarshalCalls w).confirmMarshalCalls = true ∧
      (st.write .detectorFilter w).detectorFilter = true) ∧
    (st.write .escalationThreshold w).escalationThreshold = (if n = 0 then 0 else within 2 15) ∧
    (st.write .jumpAmount w).jumpAmount =
      (match st.jumpKind with
        | .warning => 0
        | .stopGo => within 1 60
        | .timeAdd => within 1 255) ∧
    (st.write .jumpKind w).jumpKind = (if n = 0 then .warning else if n = 1 then .stopGo else .timeAdd) ∧
    (st.write .jumpKind w).jumpAmount =
      (let a := st.jumpAmount
       if n = 0 then 0 else if a < 1 then 1 else if n = 1 then min 60 a else min 255 a)

/-- READ ALERTS answers the port's alert status and empties it; SET ALERT MASK replaces the port's mask and answers it; both
are taken from every role and in every phase and touch no other port. The alert line is asserted exactly when status and mask
share an item (R188, R189, R194). SELECT COUNTER selects a class and zeroes the port's count, and refuses an unknown class
with UNKNOWN_REQUEST; READ COUNTER answers the count and zeroes it; IDENTIFY answers part code 136 and revision and changes
nothing. All are taken from every role and in every phase (R190, R192, R197; the revision 1 is the model's, log entry 15). -/
def Obligations.AlertsCountersAndIdentify : Prop :=
  (∀ (p : Port) (s : State), Ready s p →
    exec (.readAlerts p) s = .next { s with
      ports :=
        let y := portsAnswered p 23 ⟨.done, (s.ports.get p).alerts.toWord⟩ [] none s
        y.set p { y.get p with alerts := {} } }) ∧
  (∀ (p : Port) (items : Word) (s : State), Ready s p →
    let mask : AlertSet := ⟨items.getLsbD 0, items.getLsbD 1, items.getLsbD 2, items.getLsbD 3, items.getLsbD 4,
      items.getLsbD 5, items.getLsbD 6⟩
    exec (.setAlertMask p items) s = .next { s with
      ports :=
        let y := portsAnswered p 24 ⟨.done, items &&& 127⟩ [] none s
        y.set p { y.get p with alertMask := mask } }) ∧
  (∀ (s : State) (p : Port),
    alertLine s p = true ↔ ∃ a : Alert, (s.ports.get p).alerts.has a = true ∧ (s.ports.get p).alertMask.has a = true) ∧
  (∀ (p : Port) (cls : Word) (s : State) (c : CounterClass), Ready s p → cls.toNat = c.code →
    exec (.selectCounter p cls) s = .next { s with
      ports :=
        let y := portsAnswered p 25 ⟨.done, cls⟩ [] none s
        y.set p { y.get p with counterClass := c, counter := 0 } }) ∧
  (∀ (p : Port) (cls : Word) (s : State), Ready s p → 5 ≤ cls.toNat →
    exec (.selectCounter p cls) s = .next { s with ports := portsRefused p 25 .unknownRequest s }) ∧
  (∀ (p : Port) (s : State), Ready s p →
    exec (.readCounter p) s = .next { s with
      ports :=
        let y := portsAnswered p 26 ⟨.done, BitVec.ofNat 16 (s.ports.get p).counter⟩ [] none s
        y.set p { y.get p with counter := 0 } }) ∧
  (∀ (p : Port) (s : State), Ready s p →
    exec (.identify p) s = .next { s with ports := portsAnswered p 28 ⟨.done, 136 * 256 + 1⟩ [] none s })

/-! ### The heat -/

/-- STAGE HEAT in IDLE and ENDED stages the heat: records, order, book, channels, trips, queue, contexts, detectors and heat
state as the rule gives, PHASE, ORDER and PENALTY posted, the number of lanes enabled answered; with no lane enabled it is
refused with NO_LANE, in any other phase with WRONG_PHASE (R45, with R5, R17, R38, R65, R84, R128, R131, R158). Outputs and
lamps follow by `settle`. CLEAR HEAT in STAGED and ENDED returns the part to IDLE, keeping the staging record and every
sequence counter; in any other phase it is refused with WRONG_PHASE (R46, with R5, R17, R38, R65, R80, R84, R128, R131,
R158). -/
def Obligations.HeatsAreStagedAndCleared : Prop :=
  (∀ (p : Port) (s : State), Ready s p → s.role p = .control →
    let st := s.staging
    let enabled := Lane.all.filter fun l => st.lanesEnabled.get l
    let detector (on : Bool) (d : Detector) : Detector :=
      { d with
        state := if on then .inService else .disabled
        promoted := false, faultReason := none, suspectCount := 0, crossingCount := 0, lastCapture := none }
    (s.phase = .idle ∨ s.phase = .ended → enabled ≠ [] →
      exec (.stageHeat p) s = .next { settle { s with
          lanes := s.lanes.mapLane fun l _ =>
            LaneRecord.fresh (st.driverTags.get l) (if st.lanesEnabled.get l then .grid else .out)
              (if st.lanesEnabled.get l then enabled.idxOf l + 1 else 0) st.nominalLap
          order := enabled
          book := { s.book with
            slots := s.book.slots.map fun e => { e with tag := .empty }
            dropped := 0, closed := [] }
          deslots := Lanes.all ⟨0, 0, none⟩
          channels := Lanes.all ⟨⟨[], none⟩, ⟨[], none⟩⟩
          power := s.power.mapLane fun _ x =>
            { x with
              tripped := false, locked := false, retryCount := 0, driveOnRun := 0, retryDelayEnd := none
              retryWatch := none, watchStarted := false, overcurrent := false, overcurrentRun := 0 }
          queue := []
          contexts := Lanes.all ⟨false, none, false, false, false⟩
          detectors :=
            { line := s.detectors.line.mapLane fun l d => detector (st.lanesEnabled.get l) d
              sector := s.detectors.sector.mapLane fun l d =>
                detector (st.lanesEnabled.get l && st.sectorUse != .off) d }
          heat := { s.heat with
            phase := .staged, resumeTarget := none, expired := false, ending := none, raceClock := 0
            expiryTime := if st.heatMode = .lapTarget then none else some (st.heatTime * 100000)
            finishReference := none, finishingStart := none, countdownStart := none, lampsLit := 0, resumeStart := none
            trackCall := ⟨none, none, none, 0⟩, jumpMarks := Lanes.all false
            red := ⟨false, false, false, false, false⟩, greenLit := false, racingSince := none } }
        with ports := portsAnswered p 4 ⟨.done, BitVec.ofNat 16 enabled.length⟩ [.order, .penalty, .phase] none s }) ∧
    (s.phase = .idle ∨ s.phase = .ended → enabled = [] →
      exec (.stageHeat p) s = .next { s with ports := portsRefused p 4 .noLane s }) ∧
    (s.phase ≠ .idle → s.phase ≠ .ended →
      exec (.stageHeat p) s = .next { s with ports := portsRefused p 4 .wrongPhase s })) ∧
  (∀ (p : Port) (s : State), Ready s p → s.role p = .control →
    let st := s.staging
    let detector (d : Detector) : Detector :=
      { d with
        state := .disabled, promoted := false, faultReason := none, suspectCount := 0, crossingCount := 0
        lastCapture := none }
    (s.phase = .staged ∨ s.phase = .ended →
      exec (.clearHeat p) s = .next { settle { s with
          lanes := s.lanes.mapLane fun l _ => LaneRecord.fresh (st.driverTags.get l) .out 0 st.nominalLap
          order := []
          book := { s.book with
            slots := s.book.slots.map fun e => { e with tag := .empty }
            dropped := 0, closed := [] }
          deslots := Lanes.all ⟨0, 0, none⟩
          channels := Lanes.all ⟨⟨[], none⟩, ⟨[], none⟩⟩
          power := s.power.mapLane fun _ x =>
            { x with
              tripped := false, locked := false, retryCount := 0, driveOnRun := 0, retryDelayEnd := none
              retryWatch := none, watchStarted := false, overcurrent := false, overcurrentRun := 0 }
          queue := []
          contexts := Lanes.all ⟨false, none, false, false, false⟩
          detectors :=
            { line := s.detectors.line.mapLane fun _ d => detector d
              sector := s.detectors.sector.mapLane fun _ d => detector d }
          heat := { s.heat with
            phase := .idle, resumeTarget := none, expired := false, ending := none, raceClock := 0, expiryTime := none
            finishReference := none, finishingStart := none, countdownStart := none, lampsLit := 0, resumeStart := none
            trackCall := ⟨none, none, none, 0⟩, jumpMarks := Lanes.all false
            red := ⟨false, false, false, false, false⟩, greenLit := false, racingSince := none } }
        with ports := portsAnswered p 10 ⟨.done, 0⟩ [.order, .penalty, .phase] none s }) ∧
    (s.phase ≠ .staged → s.phase ≠ .ended →
      exec (.clearHeat p) s = .next { s with ports := portsRefused p 10 .wrongPhase s }))

/-- START in STAGED begins the countdown with red lamp 1; each further lamp lights one second after the one before; RECALL
START in COUNTDOWN puts the lamps out and goes back to STAGED; in other phases both are refused with WRONG_PHASE (R47, R49,
R50). A pacing command before its time does nothing (the model's choice, log entry 4). The green event, 5,000 ms and the
green delay after the countdown start: reds out, green steady, the race clock from 0, every GRID lane RUNNING, phase GREEN,
PHASE posted, stuck watches started afresh. With no lane then RUNNING the heat ends at once with ending ALL_FINISHED (R7,
R48, R58, R66). -/
def Obligations.CountdownEndsInTheRace : Prop :=
  (∀ (p : Port) (s : State), Ready s p → s.role p = .control →
    (s.phase = .staged →
      exec (.start p) s = .next { settle { s with
          heat := { s.heat with
            phase := .countdown, countdownStart := some s.now, jumpMarks := Lanes.all false, lampsLit := 1
            red := ⟨true, false, false, false, false⟩ } }
        with ports := portsAnswered p 5 ⟨.done, 2⟩ [.phase] none s }) ∧
    (s.phase ≠ .staged → exec (.start p) s = .next { s with ports := portsRefused p 5 .wrongPhase s }) ∧
    (s.phase = .countdown →
      exec (.recallStart p) s = .next { settle { s with
          heat := { s.heat with
            phase := .staged, lampsLit := 0, red := ⟨false, false, false, false, false⟩, greenLit := false } }
        with ports := portsAnswered p 6 ⟨.done, 1⟩ [.phase] none s }) ∧
    (s.phase ≠ .countdown → exec (.recallStart p) s = .next { s with ports := portsRefused p 6 .wrongPhase s })) ∧
  (∀ (s : State) (start : StationTime), s.pins.reset = false → s.phase = .countdown →
    s.heat.countdownStart = some start → s.heat.lampsLit < 5 →
    (s.heat.lampsLit * 1000 ≤ elapsed s.now start →
      exec .redLampLit s = .next { s with
        heat := { s.heat with
          lampsLit := s.heat.lampsLit + 1
          red := ⟨true, decide (1 ≤ s.heat.lampsLit), decide (2 ≤ s.heat.lampsLit), decide (3 ≤ s.heat.lampsLit),
            decide (4 ≤ s.heat.lampsLit)⟩ } }) ∧
    (elapsed s.now start < s.heat.lampsLit * 1000 → exec .redLampLit s = .next s)) ∧
  (∀ (s : State) (start : StationTime), s.pins.reset = false → s.phase = .countdown →
    s.heat.countdownStart = some start → 5000 + s.staging.greenDelay ≤ elapsed s.now start →
    ((∃ l, (s.lane l).status = .grid ∨ (s.lane l).status = .running) →
      exec .greenEvent s = .next { settle { s with
          heat := { s.heat with
            phase := .green, lampsLit := 0, raceClock := 0, red := ⟨false, false, false, false, false⟩
            greenLit := true, greenToggled := s.now, racingSince := some s.now }
          lanes := s.lanes.mapLane fun _ r => if r.status = .grid then { r with status := .running } else r }
        with ports := portsPosted [.phase] none s }) ∧
    ((∀ l, (s.lane l).status ≠ .grid ∧ (s.lane l).status ≠ .running) →
      ∃ t, exec .greenEvent s = .next t ∧ t.heat.phase = .ended ∧ t.heat.ending = some .allFinished ∧
        t.heat.raceClock = 0 ∧ t.heat.greenLit = false ∧ t.heat.red = ⟨false, false, false, false, false⟩ ∧
        t.staging = s.staging ∧ t.queue = s.queue ∧ t.contexts = s.contexts ∧ t.deslots = s.deslots ∧
        (∀ l, (t.lane l).status = (s.lane l).status ∧ (t.lane l).laps = (s.lane l).laps ∧
          t.channels.get l = ⟨⟨[], none⟩, ⟨[], none⟩⟩) ∧
        (∀ q, (t.ports.get q).alerts.has .phase = true)))

/-- TRACK CALL by phase: HOLD with the resume target of GREEN, FINISHING or the one in force, STAGED from COUNTDOWN, ALREADY
in HOLD, WRONG_PHASE elsewhere; an accepted call fills the track-call record, puts out or lights the lamps as the phase asks,
and posts TRACK_CALL and PHASE; the data is the phase after the call (R49, R51, R52, R53, R182). RESUME in HOLD starts the
resume countdown; red lamp k goes out at k fifths of it; with the fifth the phase becomes the resume target, green steady or
flashing from lit, the finishing start set at the heat's first entry into FINISHING; with resume countdown 0 all of this
happens when the request is taken (R54, R63, R7). -/
def Obligations.TrackCallsHoldAndResume : Prop :=
  (∀ (p : Port) (s : State), Ready s p → s.role p ≠ .display →
    let record : TrackCallRecord :=
      ⟨some (.port p), some s.heat.raceClock, some s.now, min 255 (s.heat.trackCall.count + 1)⟩
    let held (target : Option ResumeTarget) : State :=
      { settle { s with
          heat := { s.heat with
            phase := .hold, resumeTarget := target, resumeStart := none, trackCall := record
            red := ⟨true, true, true, true, true⟩, greenLit := false } }
        with ports := portsAnswered p 7 ⟨.done, 4⟩ [.trackCall, .phase] none s }
    (s.phase = .green → exec (.trackCall p) s = .next (held (some .green))) ∧
    (s.phase = .finishing → exec (.trackCall p) s = .next (held (some .finishing))) ∧
    (s.phase = .resuming → exec (.trackCall p) s = .next (held s.heat.resumeTarget)) ∧
    (s.phase = .countdown →
      exec (.trackCall p) s = .next { settle { s with
          heat := { s.heat with
            phase := .staged, lampsLit := 0, trackCall := record, red := ⟨false, false, false, false, false⟩
            greenLit := false } }
        with ports := portsAnswered p 7 ⟨.done, 1⟩ [.trackCall, .phase] none s }) ∧
    (s.phase = .hold →
      exec (.trackCall p) s = .next { s with ports := portsAnswered p 7 ⟨.already, 4⟩ [] none s }) ∧
    (s.phase = .idle ∨ s.phase = .staged ∨ s.phase = .settling ∨ s.phase = .ended →
      exec (.trackCall p) s = .next { s with ports := portsRefused p 7 .wrongPhase s })) ∧
  (∀ (p : Port) (s : State), Ready s p → s.role p = .control →
    (s.phase = .hold → s.staging.resumeCountdown ≠ 0 →
      exec (.resume p) s = .next { settle { s with
          heat := { s.heat with phase := .resuming, resumeStart := some s.now } }
        with ports := portsAnswered p 8 ⟨.done, 5⟩ [.phase] none s }) ∧
    (s.phase = .hold → s.staging.resumeCountdown = 0 → s.heat.resumeTarget = some .green →
      exec (.resume p) s = .next { settle { s with
          heat := { s.heat with
            phase := .green, resumeTarget := none, resumeStart := none, red := ⟨false, false, false, false, false⟩
            greenLit := true, greenToggled := s.now, racingSince := some s.now } }
        with ports := portsAnswered p 8 ⟨.done, 3⟩ [.phase] none s }) ∧
    (s.phase = .hold → s.staging.resumeCountdown = 0 → s.heat.resumeTarget = some .finishing →
      exec (.resume p) s = .next { settle { s with
          heat := { s.heat with
            phase := .finishing, resumeTarget := none, resumeStart := none
            finishingStart := some (s.heat.finishingStart.getD s.now)
            red := ⟨false, false, false, false, false⟩
            greenLit := true, greenToggled := s.now, racingSince := some s.now } }
        with ports := portsAnswered p 8 ⟨.done, 6⟩ [.phase] none s }) ∧
    (s.phase ≠ .hold → exec (.resume p) s = .next { s with ports := portsRefused p 8 .wrongPhase s })) ∧
  (∀ (s : State) (start : StationTime), s.pins.reset = false → s.phase = .resuming → s.heat.resumeStart = some start →
    (∀ k, k < 4 → s.heat.red = ⟨decide (k < 1), decide (k < 2), decide (k < 3), decide (k < 4), true⟩ →
      (k + 1) * s.staging.resumeCountdown * 200 ≤ elapsed s.now start →
      exec .resumeLampOut s = .next { s with
        heat := { s.heat with
          red := ⟨false, decide (k + 1 < 2), decide (k + 1 < 3), decide (k + 1 < 4), true⟩ } }) ∧
    (5 * s.staging.resumeCountdown * 200 ≤ elapsed s.now start → s.heat.resumeTarget = some .green →
      exec .resumeCountdownEnd s = .next { settle { s with
          heat := { s.heat with
            phase := .green, resumeTarget := none, resumeStart := none, red := ⟨false, false, false, false, false⟩
            greenLit := true, greenToggled := s.now, racingSince := some s.now } }
        with ports := portsPosted [.phase] none s }) ∧
    (5 * s.staging.resumeCountdown * 200 ≤ elapsed s.now start → s.heat.resumeTarget = some .finishing →
      exec .resumeCountdownEnd s = .next { settle { s with
          heat := { s.heat with
            phase := .finishing, resumeTarget := none, resumeStart := none
            finishingStart := some (s.heat.finishingStart.getD s.now)
            red := ⟨false, false, false, false, false⟩
            greenLit := true, greenToggled := s.now, racingSince := some s.now } }
        with ports := portsPosted [.phase] none s }))

/-- Heat time expires when the race clock reaches T_e, in GREEN, and in HOLD and RESUMING under clock under call RUN: a
TIMED_FREEZE heat goes to SETTLING; a TIMED_RUN_TO_LINE heat goes to FINISHING from GREEN, and under a call becomes
finishing-bound without a phase change. Under clock under call HOLD an expiry that a call came before waits for the resume:
in HOLD and RESUMING it has no effect (R55, R56; that the command then does nothing is log entry 4). -/
def Obligations.HeatTimeExpires : Prop :=
  ∀ (s : State) (te : Nat), s.pins.reset = false → s.heat.expiryTime = some te → te ≤ s.heat.raceClock →
    let called := s.phase = .hold ∨ s.phase = .resuming
    (s.staging.heatMode = .timedFreeze → s.phase = .green ∨ called ∧ s.staging.clockUnderCall = .run →
      exec .heatTimeExpiryFreeze s = .next { settle { s with
          heat := { s.heat with
            phase := .settling, resumeTarget := none, resumeStart := none, expired := false
            red := ⟨false, false, false, false, false⟩, greenLit := false } }
        with ports := portsPosted [.phase] none s }) ∧
    (s.staging.heatMode = .timedRunToLine → s.heat.finishReference = none → s.phase = .green →
      exec .heatTimeExpiryRunToLine s = .next { settle { s with
          heat := { s.heat with
            phase := .finishing, finishReference := some te
            finishingStart := some (s.heat.finishingStart.getD s.now)
            red := ⟨false, false, false, false, false⟩
            greenLit := true, greenToggled := s.now, racingSince := some s.now } }
        with ports := portsPosted [.phase] none s }) ∧
    (s.staging.heatMode = .timedRunToLine → s.heat.finishReference = none → called → s.staging.clockUnderCall = .run →
      exec .heatTimeExpiryRunToLine s = .next { s with
        heat := { s.heat with expired := true, resumeTarget := some .finishing, finishReference := some te } }) ∧
    (called → s.staging.clockUnderCall = .hold →
      exec .heatTimeExpiryFreeze s = .next s ∧ exec .heatTimeExpiryRunToLine s = .next s)

/-- The entry into ENDED by each of four causes: grace run out, settle event, clock cap and END HEAT (ALL_FINISHED:
`CountdownEndsInTheRace`, `LapsFinishTheLane`, `AcceptedLapsFinishTheLane`, `CallCreatesAnEntry`). The race clock keeps its
value, resume target, resume start and expired are cleared, the lamps go out, the drives and brakes with them; every channel
is emptied (what becomes of its entries: `ChannelsCloseWithTheLane`), every other book entry stays; the ending says the
cause; statuses, laps and last crossing times stay; detectors keep all but the marks of their watches, exceptions their
masks, the order its lanes; PHASE is posted (R58, R59, R61, R62, R63, R140, R150). In the other phases END HEAT is refused
with WRONG_PHASE (R60). That the clock cap ends the heat in HOLD and RESUMING under either clock policy is the model's choice
(log entry 39). Fractions, TP and scores are not said here. -/
def Obligations.HeatEnds : Prop :=
  (∀ (c : Instr) (e : Ending) (s : State), EndsHeat s c e →
    ∃ t, exec c s = .next t ∧
      t.heat = { s.heat with
        phase := .ended, ending := some e, resumeTarget := none, resumeStart := none, expired := false
        red := ⟨false, false, false, false, false⟩, greenLit := false } ∧
      (∀ l, t.channels.get l = ⟨⟨[], none⟩, ⟨[], none⟩⟩ ∧ (t.power.get l).drive = false ∧
        (t.power.get l).brake = false ∧ (t.power.get l).tripped = (s.power.get l).tripped ∧
        (t.lamps.get l).condition = .off ∧
        (t.lane l).status = (s.lane l).status ∧ (t.lane l).laps = (s.lane l).laps ∧
        (t.lane l).deducted = (s.lane l).deducted ∧ (t.lane l).lastCrossing = (s.lane l).lastCrossing ∧
        (t.lane l).history = (s.lane l).history ∧ (t.lane l).bestLap = (s.lane l).bestLap ∧
        (t.lane l).finishTime = (s.lane l).finishTime ∧ (t.lane l).driverTag = (s.lane l).driverTag ∧
        (e ≠ .settled → (t.lane l).fraction = (s.lane l).fraction) ∧
        (∀ k : DetKind, t.detector l k = moveWatch t l (s.detector l k))) ∧
      (∀ k, (∀ l, k ∉ channelSlots s l) → t.entry k = s.entry k) ∧
      (∀ k : ExcKind, (t.exceptions.get k).mask = (s.exceptions.get k).mask ∧
        ((s.exceptions.get k).flag = true → (t.exceptions.get k).flag = true)) ∧
      (s.order.Nodup → t.order.Perm s.order) ∧
      (∀ q, (t.ports.get q).alerts.has .phase = true) ∧
      t.staging = s.staging ∧ t.clock = s.clock ∧ t.queue = s.queue ∧ t.queueSeq = s.queueSeq ∧
      t.contexts = s.contexts ∧ t.deslots = s.deslots ∧ t.supply = s.supply ∧ t.book.nextSeq = s.book.nextSeq ∧
      t.pins = s.pins ∧ t.straps = s.straps ∧ t.pendingReset = s.pendingReset) ∧
  (∀ (p : Port) (s : State), Ready s p → s.role p = .control →
    (s.phase = .idle ∨ s.phase = .staged ∨ s.phase = .countdown ∨ s.phase = .ended →
      exec (.endHeat p) s = .next { s with ports := portsRefused p 9 .wrongPhase s }) ∧
    (s.phase = .green ∨ s.phase = .hold ∨ s.phase = .resuming ∨ s.phase = .finishing ∨ s.phase = .settling →
      ∃ t, exec (.endHeat p) s = .next t ∧ (t.ports.get p).response = some ⟨.done, 9, 8⟩))

/-- At the settle event every enabled lane's fraction becomes present: for a lane in GRID or RUNNING the time from its last
crossing to T_e in hundredths of its reference lap, floored, at most 99, the reference lap being the best lap, else a last
lap of the lockout or more, else the nominal lap; 0 for a lane FINISHED or STOOD_DOWN (R59, R93 to R95). -/
def Obligations.SettleComputesFractions : Prop :=
  ∀ (s : State) (te : Nat), s.pins.reset = false → s.phase = .settling → s.heat.expiryTime = some te →
    te + 100 ≤ s.heat.raceClock →
    let reference (l : Lane) : Nat :=
      match (s.lane l).bestLap, (s.lane l).lastLap with
      | some b, _ => b
      | none, some m => if s.staging.lockout * 1000 ≤ m then m else s.staging.nominalLap * 100000
      | none, none => s.staging.nominalLap * 100000
    ∃ t, exec .settleEvent s = .next t ∧ t.heat.ending = some .settled ∧
      (∀ l, ((s.lane l).status = .grid ∨ (s.lane l).status = .running) →
        (t.lane l).fraction = some (min 99 ((te - (s.lane l).lastCrossing) * 100 / reference l))) ∧
      (∀ l, (s.lane l).status = .finished ∨ (s.lane l).status = .stoodDown → (t.lane l).fraction = some 0) ∧
      (∀ l, (s.lane l).status = .out → (t.lane l).fraction = (s.lane l).fraction) ∧
      (∀ q, (t.ports.get q).alerts.has .lap = true)

/-- The flashing green lamp toggles every 250 ms of station time in FINISHING, and a flashing lane lamp every half-period of
its condition: 500, 250 or 125 ms at 1, 2 or 4 Hz (R63, R144). Nothing else changes. -/
def Obligations.LampsFlash : Prop :=
  (∀ s : State, s.pins.reset = false → s.phase = .finishing → 250 ≤ elapsed s.now s.heat.greenToggled →
    exec .greenLampFlash s = .next { s with
      heat := { s.heat with greenLit := !s.heat.greenLit, greenToggled := s.heat.greenToggled + 250 } }) ∧
  (∀ (s : State) (l : Lane) (half : Nat), s.pins.reset = false →
    ((s.lamps.get l).condition = .flash1 ∧ half = 500 ∨ (s.lamps.get l).condition = .flash2 ∧ half = 250 ∨
      (s.lamps.get l).condition = .flash4 ∧ half = 125) →
    half ≤ elapsed s.now (s.lamps.get l).toggled →
    exec (.laneLampFlash l) s = .next { s with
      lamps := s.lamps.set l
        { s.lamps.get l with
          lit := !(s.lamps.get l).lit
          toggled := (s.lamps.get l).toggled + BitVec.ofNat 32 half } })

/-! ### Detectors and crossings -/

/-- A change of filtered level sets the level, zeroes the run and sets or clears the broken-beam start time; one that is not
a crossing edge, or of a detector that is not IN_SERVICE, does nothing more; one that is a crossing of an IN_SERVICE detector
is counted, and goes no further in IDLE, STAGED and ENDED or for a lane that is FINISHED, STOOD_DOWN or without timing (R1 to
R4, R18, R19). Whatever the qualifier makes of a crossing, it is counted and its capture time noted. A level that is already
the filtered level is no change (log entries 4 and 5). -/
def Obligations.LevelChangesAreFiltered : Prop :=
  (∀ (l : Lane) (k : DetKind) (b : Bool) (c : Nat) (at' : StationTime) (s : State), s.pins.reset = false →
    ((s.detector l k).broken ≠ b → c ≤ 3960000000 → ¬ CrossingEdge s k b ∨ (s.detector l k).state ≠ .inService →
      exec (.filteredLevelChange l k b c at') s = .next (settle (levelChanged l k b at' s))) ∧
    (Crosses s l k b c →
      ((s.phase = .idle ∨ s.phase = .staged ∨ s.phase = .ended) ∨
        (s.lane l).status = .finished ∨ (s.lane l).status = .stoodDown ∨ (s.lane l).timingLost = true) →
      exec (.filteredLevelChange l k b c at') s = .next (settle (crossingCounted l k b c at' s))) ∧
    ((s.detector l k).broken = b → exec (.filteredLevelChange l k b c at') s = .next s)) ∧
  (∀ (l : Lane) (k : DetKind) (b : Bool) (c : Nat) (at' : StationTime) (s : State), Crosses s l k b c →
    ∃ t, exec (.filteredLevelChange l k b c at') s = .next t ∧
      (t.detector l k).crossingCount = min 65535 ((s.detector l k).crossingCount + 1) ∧
      (t.detector l k).lastCapture = some c ∧ (t.detector l k).broken = b ∧
      (t.detector l k).brokenStart = (if b then some at' else none) ∧
      (∀ l' k', l' ≠ l → t.detector l' k' = moveWatch t l' (s.detector l' k')))

/-- A line crossing that passes the tests, and is no finish, closes a lap in every heat mode: L is raised by one, the lap is
added to the history with its time, split and flags, the statistics with the average lap, rounded once, the best lap, last
crossing and last lap follow; the lap context starts anew; other lanes change in position and dead-heat mark alone; LAP is
posted to every port, and every LAPS counter counts the lap, up to 255 (R21, R23, R24, R69 to R74, R77, R78, R84, R92, R125,
R190). That the lap which a stop-go begun in HOLD or RESUMING opened carries UNDER_CALL wherever it closes follows R134,
where R24 goes by the phase at the closing crossing: the model's choice, with a mark of its own (log entry 36). -/
def Obligations.ValidLapIsRecorded : Prop :=
  ∀ (l : Lane) (k : DetKind) (b : Bool) (c : Nat) (at' : StationTime) (s : State),
    Crosses s l k b c → InPlay s l → TimingLine s l k → TakesLap s c → PassesTests s l k c → ¬ FinishesAt s l c →
    let r := s.lane l
    let x := s.contexts.get l
    r.laps < 65535 →
    let time := c - r.lastCrossing
    let standing := !x.referenceSet
    let underCall := s.phase == .hold || s.phase == .resuming || x.underCallMark
    let fallback := k == .sector
    let eligible := !standing && !underCall && !x.stopGoMark && !x.capMark && !fallback
    let best := eligible && (match r.bestLap with | none => true | some m => decide (time < m))
    let lap : Lap :=
      ⟨r.laps + 1, c, some time, r.split,
        { standing := standing, underCall := underCall, penaltyLap := x.stopGoMark, capped := x.capMark
          fallback := fallback, best := best }⟩
    let before := if best then r.history.map fun h => { h with flags := { h.flags with best := false } } else r.history
    let count := if standing then r.timedCount else r.timedCount + 1
    let sum := if standing then r.timedSum else r.timedSum + time
    let unit := count * match s.staging.resolution with | .us10 => 1 | .us100 => 10 | .ms1 => 100 | .ms10 => 1000
    ∃ t, exec (.filteredLevelChange l k b c at') s = .next t ∧
      (t.lane l).laps = r.laps + 1 ∧ (t.lane l).status = r.status ∧
      (t.lane l).history = (before ++ [lap]).drop (before.length + 1 - 32) ∧
      (t.lane l).lastCrossing = c ∧ (t.lane l).lastLap = some time ∧ (t.lane l).split = none ∧
      (t.lane l).timedCount = count ∧ (t.lane l).timedSum = sum ∧
      (count = 0 → (t.lane l).averageLap = none) ∧
      (0 < count → (t.lane l).averageLap ≠ none ∧ ∀ a, (t.lane l).averageLap = some a →
        (s.staging.rounding = .down → a * unit ≤ sum ∧ sum < (a + 1) * unit) ∧
        (s.staging.rounding = .up → sum ≤ a * unit ∧ a * unit < sum + unit) ∧
        (s.staging.rounding = .nearestEven →
          2 * (a * unit) ≤ 2 * sum + unit ∧ 2 * sum ≤ 2 * (a * unit) + unit ∧
          (2 * (a * unit) = 2 * sum + unit ∨ 2 * sum = 2 * (a * unit) + unit → a % 2 = 0))) ∧
      (t.lane l).bestLap = (if best then some time else r.bestLap) ∧
      (t.lane l).bestNumber = (if best then some (r.laps + 1) else r.bestNumber) ∧
      (t.lane l).deducted = r.deducted ∧ (t.lane l).timePenalty = r.timePenalty ∧ (t.lane l).finishTime = r.finishTime ∧
      (t.lane l).fraction = r.fraction ∧ (t.lane l).driverTag = r.driverTag ∧
      (t.contexts.get l).referenceSet = true ∧ (t.contexts.get l).sectorMark = none ∧
      (t.detector l k).suspectCount = 0 ∧
      (let n := min 255 ((s.deslots.get l).clean + 1)
       t.deslots.get l = { s.deslots.get l with
         clean := n, count := if n = s.staging.cleanLapReset then 0 else (s.deslots.get l).count }) ∧
      t.queue = s.queue.map (fun q => if q.lane = l ∧ q.capture < c then { q with superseded := true } else q) ∧
      (∀ m, m ≠ l → t.lane m =
        { s.lane m with position := (t.lane m).position, deadHeat := (t.lane m).deadHeat } ∧
        t.contexts.get m = s.contexts.get m ∧ t.deslots.get m = s.deslots.get m ∧ t.channels.get m = s.channels.get m) ∧
      (∀ q, (t.ports.get q).alerts.has .lap = true) ∧ CountsOne .laps s t ∧
      t.heat = s.heat ∧ t.staging = s.staging ∧ t.clock = s.clock ∧ t.queueSeq = s.queueSeq ∧
      t.supply = s.supply ∧ t.straps = s.straps ∧ t.pending = s.pending ∧ t.pendingReset = s.pendingReset

/-- A lap finishes a RUNNING lane in a LAP_TARGET heat when it brings its net laps to the lap target, or is captured after
the finish reference, and in a TIMED_RUN_TO_LINE heat when it is captured at or after the finish reference: FINISHED, finish
time the capture time, the entry flagged FINAL, its channels closed. Where L stands at 65,535 no entry is added and
SATURATION is raised, and the finish takes effect all the same (R73). The first finish of a LAP_TARGET heat sets the finish
reference and takes GREEN to FINISHING, or makes a called heat finishing-bound; the finish of the last RUNNING lane ends the
heat ALL_FINISHED; LAP is posted and every LAPS counter counts the lap (R57, R58, R77 to R79, R84, R139, R190). What becomes
of the entries in its channels: `ChannelsCloseWithTheLane`. -/
def Obligations.LapsFinishTheLane : Prop :=
  ∀ (l : Lane) (k : DetKind) (b : Bool) (c : Nat) (at' : StationTime) (s : State),
    Crosses s l k b c → (s.lane l).status = .running → (s.lane l).timingLost = false → TimingLine s l k → TakesLap s c →
    PassesTests s l k c → s.phase ≠ .settling →
    let r := s.lane l
    let reached := (s.staging.lapTarget : Int) ≤ (min 65535 (r.laps + 1) : Nat) - (r.deducted : Int)
    let plain (h : List Lap) : List Lap := h.map fun x => { x with flags := { x.flags with best := false } }
    (s.staging.heatMode = .lapTarget ∧ (reached ∨ ∃ f, s.heat.finishReference = some f ∧ f < c) ∨
      s.staging.heatMode = .timedRunToLine ∧ ∃ f, s.heat.finishReference = some f ∧ f ≤ c) →
    let first := s.staging.heatMode = .lapTarget ∧ s.heat.finishReference = none
    let others := ∃ m, m ≠ l ∧ (s.lane m).status = .running
    ∃ t, exec (.filteredLevelChange l k b c at') s = .next t ∧
      (t.lane l).status = .finished ∧ (t.lane l).finishTime = some c ∧ (t.lane l).laps = min 65535 (r.laps + 1) ∧
      (t.lane l).lastCrossing = c ∧ (t.lane l).lastLap = some (c - r.lastCrossing) ∧
      (r.laps < 65535 → ∃ lap, (t.lane l).history.getLast? = some lap ∧ lap.number = r.laps + 1 ∧
        lap.closeTime = c ∧ lap.lapTime = some (c - r.lastCrossing) ∧ lap.flags.final = true) ∧
      (65535 ≤ r.laps → plain (t.lane l).history = plain r.history ∧ t.exceptions.saturation.flag = true ∧
        (s.exceptions.saturation.flag = false → t.exceptions.saturation.capture =
          some ⟨some l, none, s.heat.raceClock, s.now, .lapsCounted⟩)) ∧
      (∀ q, (t.ports.get q).alerts.has .lap = true) ∧ CountsOne .laps s t ∧
      t.channels.get l = ⟨⟨[], none⟩, ⟨[], none⟩⟩ ∧
      (∀ m, m ≠ l → (t.lane m).status = (s.lane m).status ∧ (t.lane m).laps = (s.lane m).laps) ∧
      (first → t.heat.finishReference = some c) ∧ (¬ first → t.heat.finishReference = s.heat.finishReference) ∧
      (¬ others → t.phase = .ended ∧ t.heat.ending = some .allFinished) ∧
      (others → first → s.phase = .green → t.phase = .finishing ∧
        t.heat.finishingStart = some (s.heat.finishingStart.getD s.now) ∧ t.heat.greenLit = true ∧
        (∀ q, (t.ports.get q).alerts.has .phase = true)) ∧
      (others → first → s.phase = .hold ∨ s.phase = .resuming → t.phase = s.phase ∧
        t.heat.resumeTarget = some .finishing) ∧
      (others → ¬ first → t.heat = s.heat)

/-- The crossing that closes a lap, and is no finish, also goes to the Penalty Server. A channel that served nothing when the
crossing was handed over starts its head where the crossing was captured not earlier than the head's activation, and the lap
the crossing opens is marked for it, and where the crossing was taken in HOLD or RESUMING for UNDER_CALL too (log entry 36);
a channel that serves starts nothing. The crossing counts against a serving cap, which at its last lap is SERVED, the next
waiting cap starting no earlier than the next crossing (R132 to R134, R136, R23). The premises on numbers and channels are
invariants of the part (`NumbersStayInOrder`, `ChannelsHoldOpenEntries`). -/
def Obligations.CrossingServesPenalties : Prop :=
  ∀ (l : Lane) (k : DetKind) (b : Bool) (c : Nat) (at' : StationTime) (s : State),
    Crosses s l k b c → InPlay s l → TimingLine s l k → TakesLap s c → PassesTests s l k c → ¬ FinishesAt s l c →
    NumbersDiffer s → ChannelsAgree s →
    let stop := (s.channels.get l).stop
    let cap := (s.channels.get l).cap
    ∃ t, exec (.filteredLevelChange l k b c at') s = .next t ∧
      (∀ (q : Nat) (rest : List Nat), stop = ⟨q :: rest, none⟩ → ∀ j, slotOf s.book q = some j →
        ∀ a, (s.entry j).activationTime = some a →
          (a ≤ c → (t.channels.get l).stop = ⟨rest, some q⟩ ∧ t.entry j = { s.entry j with tag := .serving } ∧
            (t.contexts.get l).stopGoMark = true ∧
            ((t.contexts.get l).underCallMark = true ↔ s.phase = .hold ∨ s.phase = .resuming) ∧
            powerState t l ≠ .full ∧ powerState t l ≠ .capped) ∧
          (c < a → (t.channels.get l).stop = stop ∧ t.entry j = s.entry j ∧
            (t.contexts.get l).stopGoMark = false ∧ (t.contexts.get l).underCallMark = false)) ∧
      (stop.serving ≠ none ∨ stop.waiting = [] →
        (t.channels.get l).stop = stop ∧ (t.contexts.get l).stopGoMark = false ∧
        (t.contexts.get l).underCallMark = false) ∧
      (∀ (q : Nat) (rest : List Nat), cap = ⟨q :: rest, none⟩ → ∀ j, slotOf s.book q = some j →
        ∀ a, (s.entry j).activationTime = some a →
          (a ≤ c → (t.channels.get l).cap = ⟨rest, some q⟩ ∧ t.entry j = { s.entry j with tag := .serving } ∧
            (t.contexts.get l).capMark = true) ∧
          (c < a → (t.channels.get l).cap = cap ∧ t.entry j = s.entry j ∧ (t.contexts.get l).capMark = false)) ∧
      (∀ q, cap.serving = some q → ∀ j, slotOf s.book q = some j → ∀ n, (s.entry j).progress = some n →
        (2 ≤ n → (t.channels.get l).cap = cap ∧ t.entry j = { s.entry j with progress := some (n - 1) } ∧
          (t.contexts.get l).capMark = true ∧ t.book.closed = s.book.closed) ∧
        (n = 1 → (t.channels.get l).cap = ⟨cap.waiting, none⟩ ∧
          t.entry j = { s.entry j with tag := .served, progress := some 0, closeTime := some s.heat.raceClock } ∧
          (t.contexts.get l).capMark = false ∧ t.book.closed = s.book.closed ++ [j])) ∧
      (cap.serving = none → cap.waiting = [] →
        (t.channels.get l).cap = cap ∧ (t.contexts.get l).capMark = false) ∧
      (∀ m, m ≠ l → t.channels.get m = s.channels.get m) ∧
      (∀ j, (∀ q, slotOf s.book q = some j →
          stop.waiting.head? ≠ some q ∧ cap.waiting.head? ≠ some q ∧ cap.serving ≠ some q) → t.entry j = s.entry j) ∧
      t.book.nextSeq = s.book.nextSeq ∧ t.book.dropped = s.book.dropped

/-- A line crossing inside the lockout is TOO_SOON; one without a required sector crossing is NO_SECTOR. Either way SUSPECT
is raised, every SUSPECTS counter counts it, up to 255, and the detector's consecutive-suspect count rises up to 7; found at
6 or 7 it makes the detector ERRATIC, DETECTOR is raised, and with DETECTOR masked the detector becomes FAULTED. With SUSPECT
unmasked and a place free the suspect joins the tail of the queue under a number no queued entry holds, and nothing of the
lane changes; with SUSPECT masked, or the queue full, a TOO_SOON suspect is rejected at once and nothing of the lane or the
queue changes, and a NO_SECTOR suspect is accepted at once as a timed lap, which every LAPS counter counts (R8, R9, R12, R21,
R25 to R27, R29 to R32, R84, R190). UNDER_CALL of a lap that a stop-go begun under a call opened is the model's choice (log
entry 36). -/
def Obligations.SuspectsAreQueued : Prop :=
  ∀ (l : Lane) (k : DetKind) (b : Bool) (c : Nat) (at' : StationTime) (s : State) (why : SuspectReason),
    Crosses s l k b c → InPlay s l → TimingLine s l k → TakesLap s c → (s.lane l).rebasePending = false →
    (s.contexts.get l).referenceSet = true → 1 ≤ s.queueSeq → s.queueSeq ≤ 65535 →
    let r := s.lane l
    let last := r.lastCrossing
    let n := (s.detector l k).suspectCount
    let calm := n < 6 ∨ s.exceptions.detector.mask = false
    let atOnce := s.exceptions.suspect.mask = true ∨ 8 ≤ s.queue.length
    (why = .tooSoon ∧ (c < last ∨ c - last < s.staging.lockout * 1000) ∨
      why = .noSector ∧ last ≤ c ∧ s.staging.lockout * 1000 ≤ c - last ∧ s.staging.sectorUse = .confirm ∧ k = .line ∧
        (s.detector l .sector).state = .inService ∧ (s.detector l .sector).promoted = false ∧
        (s.contexts.get l).sectorMark = none) →
    ∃ t, exec (.filteredLevelChange l k b c at') s = .next t ∧
      (∀ q,
        let counts := (s.ports.get q).counterClass = .suspects ∨
          (s.ports.get q).counterClass = .laps ∧ why = .noSector ∧ atOnce
        (t.ports.get q).counter = if counts then min 255 ((s.ports.get q).counter + 1) else (s.ports.get q).counter) ∧
      t.exceptions.suspect.flag = true ∧ (t.detector l k).suspectCount = min 7 (n + 1) ∧
      (6 ≤ n → (t.detector l k).faultReason = some .erratic ∧ t.exceptions.detector.flag = true ∧
        (s.exceptions.detector.flag = false → t.exceptions.detector.capture =
          some ⟨some l, some (.detector k), s.heat.raceClock, s.now, .erratic⟩) ∧
        (t.detector l k).state = (if s.exceptions.detector.mask then .faulted else .inService)) ∧
      (n < 6 → (t.detector l k).faultReason = (s.detector l k).faultReason ∧ (t.detector l k).state = .inService ∧
        t.exceptions.detector = s.exceptions.detector) ∧
      (¬ calm → k = .line → (s.detector l .sector).state = .inService → ¬ (why = .noSector ∧ atOnce) →
        (t.detector l .sector).promoted = true ∧
        t.lanes = s.lanes.set l { r with fallback := true, rebasePending := true }) ∧
      (¬ calm → k = .sector ∨ (s.detector l .sector).state ≠ .inService →
        t.lanes = s.lanes.set l { r with timingLost := true }) ∧
      (¬ atOnce →
        (∃ x, t.queue.getLast? = some x ∧ t.queue = s.queue ++ [x] ∧ x = ⟨x.seq, l, k, c, why, s.now, false⟩ ∧
          (∀ y ∈ s.queue, y.seq ≠ x.seq) ∧ 1 ≤ x.seq ∧ x.seq ≤ 65535) ∧
        (∀ q, (t.ports.get q).alerts.has .adjudication = true) ∧
        (calm → t.lanes = s.lanes) ∧ t.order = s.order ∧ t.contexts = s.contexts ∧ t.book = s.book ∧
        t.channels = s.channels ∧ t.deslots = s.deslots ∧ t.heat = s.heat ∧ t.staging = s.staging ∧ t.clock = s.clock) ∧
      (why = .tooSoon → atOnce →
        t.queue = s.queue ∧ t.queueSeq = s.queueSeq ∧ (calm → t.lanes = s.lanes) ∧ t.order = s.order ∧
        t.contexts = s.contexts ∧ t.book = s.book ∧ t.channels = s.channels ∧ t.deslots = s.deslots ∧ t.heat = s.heat) ∧
      (why = .noSector → atOnce → last < c → ¬ FinishesAt s l c →
        (t.lane l).laps = min 65535 (r.laps + 1) ∧ (t.lane l).lastCrossing = c ∧ (t.lane l).lastLap = some (c - last) ∧
        (t.lane l).timedCount = r.timedCount + 1 ∧ (t.lane l).bestLap = r.bestLap ∧ (t.lane l).status = r.status ∧
        (65535 ≤ r.laps → t.exceptions.saturation.flag = true) ∧
        (r.laps < 65535 → ∃ lap, (t.lane l).history.getLast? = some lap ∧ lap.number = r.laps + 1 ∧ lap.closeTime = c ∧
          lap.lapTime = some (c - last) ∧
          lap.flags = { noSector := true, adjudicated := true
                        capped := (s.contexts.get l).capMark, penaltyLap := (s.contexts.get l).stopGoMark
                        underCall := (s.contexts.get l).underCallMark }) ∧
        t.contexts.get l = ⟨true, none, false, (s.channels.get l).cap.serving.isSome, false⟩ ∧
        t.queue = s.queue.map (fun q => if q.lane = l ∧ q.capture < c then { q with superseded := true } else q) ∧
        t.queueSeq = s.queueSeq ∧ (∀ q, (t.ports.get q).alerts.has .lap = true) ∧
        t.book = s.book ∧ t.channels = s.channels ∧ t.deslots = s.deslots ∧ t.heat = s.heat)

/-- With a re-base pending, a line crossing moves the last crossing time and counts no lap: no other lane field changes but
the flag and the split, the order stays, the lap context starts anew, and queued entries captured earlier are superseded
(R21, R22, R33, R68). A sector crossing of a detector that is not promoted sets the sector mark and the current split where
the lap has no mark yet and the crossing is later than the last line crossing; one captured at race clock 0 is ignored (R18,
R20, R68). -/
def Obligations.RebaseAndSectorCrossings : Prop :=
  (∀ (l : Lane) (k : DetKind) (b : Bool) (c : Nat) (at' : StationTime) (s : State),
    Crosses s l k b c → InPlay s l → TimingLine s l k → TakesLap s c → (s.lane l).rebasePending = true →
    exec (.filteredLevelChange l k b c at') s = .next (settle
      { (crossingCounted l k b c at' s).modDetector l k fun d => { d with suspectCount := 0 } with
        lanes := s.lanes.set l { s.lane l with lastCrossing := c, rebasePending := false, split := none }
        contexts := s.contexts.set l ⟨true, none, false, (s.channels.get l).cap.serving.isSome, false⟩
        queue := s.queue.map fun q => if q.lane = l ∧ q.capture < c then { q with superseded := true } else q })) ∧
  (∀ (l : Lane) (b : Bool) (c : Nat) (at' : StationTime) (s : State),
    Crosses s l .sector b c → InPlay s l → (s.detector l .sector).promoted = false →
    let u := crossingCounted l .sector b c at' s
    (TakesLap s c → (s.contexts.get l).sectorMark = none → (s.lane l).lastCrossing < c →
      exec (.filteredLevelChange l .sector b c at') s = .next (settle
        { u with
          contexts := s.contexts.set l { s.contexts.get l with sectorMark := some c }
          lanes := s.lanes.set l { s.lane l with split := some (c - (s.lane l).lastCrossing) } })) ∧
    (TakesLap s c → (s.contexts.get l).sectorMark ≠ none ∨ c ≤ (s.lane l).lastCrossing →
      exec (.filteredLevelChange l .sector b c at') s = .next (settle u)) ∧
    (c = 0 → exec (.filteredLevelChange l .sector b c at') s = .next (settle u)))

/-- A line crossing in COUNTDOWN, or one captured at race clock 0 under the race, is a jump start: the lane's jump mark is
set and an automatic call of the staged kind and amount is made, once a countdown; a lane whose mark is set is not called
again. The entry takes the lowest EMPTY slot, or where there is none that of the entry that closed first, which is dropped
(R18, R50, R122, R123). With every slot of the book open the call is lost: BOOK is raised with the detail LOST, and the mark
is set all the same (R122). -/
def Obligations.JumpStartIsCalledOnce : Prop :=
  ∀ (l : Lane) (b : Bool) (c : Nat) (at' : StationTime) (s : State),
    Crosses s l .line b c → InPlay s l →
    (s.phase = .countdown ∨
      c = 0 ∧ (s.phase = .green ∨ s.phase = .hold ∨ s.phase = .resuming ∨ s.phase = .finishing)) →
    (s.heat.jumpMarks.get l = true →
      exec (.filteredLevelChange l .line b c at') s = .next (settle (crossingCounted l .line b c at' s))) ∧
    (∀ k, s.heat.jumpMarks.get l = false → s.book.slots.length = 16 → TakesSlot s k →
      ∃ t, exec (.filteredLevelChange l .line b c at') s = .next t ∧ t.heat.jumpMarks = s.heat.jumpMarks.set l true ∧
        t.book.dropped = droppedWith s k ∧ (t.entry k).lane = l ∧ (t.entry k).kind = s.staging.jumpKind.kind ∧
        (t.entry k).amount = clampAmount s.staging.jumpKind.kind s.staging.jumpAmount ∧
        (t.entry k).origin = .jumpStart ∧ (t.entry k).callTime = s.heat.raceClock ∧ (t.entry k).callStation = s.now ∧
        (t.entry k).activationTime = some s.heat.raceClock ∧
        (s.staging.jumpKind = .stopGo → (t.entry k).tag = .active ∧ (t.entry k).seq ∈ (t.channels.get l).stop.waiting ∧
          t.book.closed = closedWithout s k) ∧
        (s.staging.jumpKind ≠ .stopGo → (t.entry k).tag = .served ∧ t.book.closed = closedWithout s k ++ [k]) ∧
        (s.staging.jumpKind = .timeAdd →
          (t.lane l).timePenalty =
            min 4294967295 ((s.lane l).timePenalty + clampAmount .timeAdd s.staging.jumpAmount * 100000)) ∧
        t.contexts = s.contexts ∧ t.queue = s.queue ∧ (t.lane l).laps = (s.lane l).laps ∧
        (∀ j < 16, j ≠ k → t.entry j = s.entry j)) ∧
    (s.heat.jumpMarks.get l = false → s.book.slots.length = 16 → (∀ j < 16, (s.entry j).tag ≠ .empty) → s.book.closed = [] →
      ∃ t, exec (.filteredLevelChange l .line b c at') s = .next t ∧ t.heat.jumpMarks = s.heat.jumpMarks.set l true ∧
        t.book = s.book ∧ t.channels = s.channels ∧ t.lanes = s.lanes ∧ t.exceptions.book.flag = true ∧
        (s.exceptions.book.flag = false → t.exceptions.book.capture =
          some ⟨some l, some .jumpStart, s.heat.raceClock, s.now, .lost⟩))

/-- A stuck watch runs while the beam of an IN_SERVICE detector is broken, the phase is GREEN or FINISHING and the lane
RUNNING. When it reaches the stuck limit the detector's fault reason is STUCK and DETECTOR is raised; with DETECTOR masked
the detector becomes FAULTED, and for a line detector the sector detector is promoted if IN_SERVICE, with a re-base pending,
or else the lane's timing is lost (R7, R9 to R12). It does not expire again in the same stretch. -/
def Obligations.StuckWatchReportsTheDetector : Prop :=
  ∀ (l : Lane) (k : DetKind) (s : State) (b r : StationTime), s.pins.reset = false →
    (s.detector l k).state = .inService → (s.detector l k).broken = true → (s.detector l k).watchExpired = false →
    (s.phase = .green ∨ s.phase = .finishing) → (s.lane l).status = .running →
    (s.detector l k).brokenStart = some b → s.heat.racingSince = some r →
    s.staging.stuckLimit ≤ elapsed s.now b → s.staging.stuckLimit ≤ elapsed s.now r →
    ∃ t, exec (.stuckWatchExpiry l k) s = .next t ∧ t.exceptions.detector.flag = true ∧
      (t.detector l k).faultReason = some .stuck ∧ t.heat = s.heat ∧ t.order = s.order ∧ t.contexts = s.contexts ∧
      t.book = s.book ∧ t.queue = s.queue ∧ t.channels = s.channels ∧
      (s.exceptions.detector.mask = false →
        (t.detector l k).state = .inService ∧ (t.detector l k).watchExpired = true ∧ t.lanes = s.lanes ∧
        exec (.stuckWatchExpiry l k) t = .next t) ∧
      (s.exceptions.detector.mask = true →
        (t.detector l k).state = .faulted ∧
        (k = .line → (s.detector l .sector).state = .inService →
          (t.detector l .sector).promoted = true ∧
          t.lanes = s.lanes.set l { s.lane l with fallback := true, rebasePending := true }) ∧
        (k = .line → (s.detector l .sector).state ≠ .inService →
          t.lanes = s.lanes.set l { s.lane l with timingLost := true }) ∧
        (k = .sector → (s.detector l .sector).promoted = true →
          t.lanes = s.lanes.set l { s.lane l with timingLost := true }) ∧
        (k = .sector → (s.detector l .sector).promoted = false → t.lanes = s.lanes))

/-- DETECTOR OUT and DETECTOR RESTORE outside IDLE and ENDED name an enabled lane by its number. OUT takes the detector out
of service, as a fault does where it was IN_SERVICE, and answers ALREADY where it is OUT; RESTORE of a line detector ends a
promotion and gives a lane without timing its line again; RESTORE of a sector detector makes it the timing line where the
line detector is FAULTED or OUT (R10, R11, R13 to R16). Re-base is pending after it at or after the green event. Both are
refused in this order: a kind code above 1 with UNKNOWN_REQUEST (R196), IDLE and ENDED with WRONG_PHASE, a number that names
no enabled lane with NO_LANE, a DISABLED detector with WRONG_STATE. -/
def Obligations.DetectorsLeaveAndReturn : Prop :=
  (∀ (p : Port) (lane : Byte) (l : Lane) (s : State), Ready s p → s.role p = .control → lane.toNat = l.num →
    s.phase ≠ .idle → s.phase ≠ .ended → (s.lane l).status ≠ .out →
    let after := s.phase == .green || s.phase == .hold || s.phase == .resuming || s.phase == .finishing ||
      s.phase == .settling
    let r := s.lane l
    let taken (k : DetKind) : State := s.modDetector l k fun d => { d with state := .out }
    let back (k : DetKind) : State :=
      s.modDetector l k fun d => { d with state := .inService, faultReason := none, suspectCount := 0 }
    let answerOut (u : State) : Host.Outcome State Fault Refusal :=
      .next { settle u with ports := portsAnswered p 18 ⟨.done, 3⟩ [] none s }
    let answerBack (u : State) : Host.Outcome State Fault Refusal :=
      .next { settle u with ports := portsAnswered p 19 ⟨.done, 1⟩ [] none s }
    ((s.detector l .line).state = .inService → (s.detector l .sector).state = .inService →
      exec (.detectorOut p lane 0) s = answerOut
        { (taken .line).modDetector l .sector (fun d => { d with promoted := true }) with
          lanes := s.lanes.set l { r with fallback := true, rebasePending := r.rebasePending || after } }) ∧
    ((s.detector l .line).state = .inService → (s.detector l .sector).state ≠ .inService →
      exec (.detectorOut p lane 0) s = answerOut
        { taken .line with lanes := s.lanes.set l { r with timingLost := true } }) ∧
    ((s.detector l .sector).state = .inService → (s.detector l .sector).promoted = true →
      exec (.detectorOut p lane 1) s = answerOut
        { taken .sector with lanes := s.lanes.set l { r with timingLost := true } }) ∧
    ((s.detector l .sector).state = .inService → (s.detector l .sector).promoted = false →
      exec (.detectorOut p lane 1) s = answerOut (taken .sector)) ∧
    (∀ k, (s.detector l k).state = .faulted → exec (.detectorOut p lane (match k with | .line => 0 | .sector => 1)) s =
      answerOut (taken k)) ∧
    (∀ k, (s.detector l k).state = .out → exec (.detectorOut p lane (match k with | .line => 0 | .sector => 1)) s =
      .next { s with ports := portsAnswered p 18 ⟨.already, 3⟩ [] none s }) ∧
    ((s.detector l .line).state ≠ .disabled → (s.detector l .sector).promoted = true →
      exec (.detectorRestoreLine p lane) s = answerBack
        { (back .line).modDetector l .sector (fun d => { d with promoted := false, suspectCount := 0 }) with
          lanes := s.lanes.set l
            { r with fallback := false, timingLost := false, rebasePending := r.rebasePending || after } }) ∧
    ((s.detector l .line).state ≠ .disabled → (s.detector l .sector).promoted = false → r.timingLost = true →
      exec (.detectorRestoreLine p lane) s = answerBack
        { back .line with
          lanes := s.lanes.set l { r with timingLost := false, rebasePending := r.rebasePending || after } }) ∧
    ((s.detector l .line).state ≠ .disabled → (s.detector l .sector).promoted = false → r.timingLost = false →
      exec (.detectorRestoreLine p lane) s = answerBack (back .line)) ∧
    ((s.detector l .sector).state ≠ .disabled → (s.detector l .line).state = .inService →
      exec (.detectorRestoreSector p lane) s = answerBack (back .sector)) ∧
    ((s.detector l .sector).state ≠ .disabled →
      (s.detector l .line).state = .faulted ∨ (s.detector l .line).state = .out →
      exec (.detectorRestoreSector p lane) s = answerBack
        { (back .sector).modDetector l .sector (fun d => { d with promoted := true }) with
          lanes := s.lanes.set l
            { r with fallback := true, timingLost := false, rebasePending := r.rebasePending || after } }) ∧
    ((s.detector l .line).state = .disabled →
      exec (.detectorRestoreLine p lane) s = .next { s with ports := portsRefused p 19 .wrongState s })) ∧
  (∀ (p : Port) (lane : Byte) (kind : Word) (s : State), Ready s p → s.role p = .control →
    let out (r : Reason) : Prop :=
      exec (.detectorOut p lane kind) s = .next { s with ports := portsRefused p 18 r s }
    let line (r : Reason) : Prop :=
      exec (.detectorRestoreLine p lane) s = .next { s with ports := portsRefused p 19 r s }
    let sector (r : Reason) : Prop :=
      exec (.detectorRestoreSector p lane) s = .next { s with ports := portsRefused p 19 r s }
    let outside := s.phase = .idle ∨ s.phase = .ended
    let noLane := lane.toNat = 0 ∨ 8 < lane.toNat ∨ ∃ l : Lane, lane.toNat = l.num ∧ (s.lane l).status = .out
    (2 ≤ kind.toNat → out .unknownRequest) ∧
    (outside → (kind.toNat < 2 → out .wrongPhase) ∧ line .wrongPhase ∧ sector .wrongPhase) ∧
    (¬ outside → noLane → (kind.toNat < 2 → out .noLane) ∧ line .noLane ∧ sector .noLane) ∧
    (∀ l : Lane, ¬ outside → lane.toNat = l.num → (s.lane l).status ≠ .out →
      ((s.detector l .line).state = .disabled → line .wrongState ∧ (kind = 0 → out .wrongState)) ∧
      ((s.detector l .sector).state = .disabled → sector .wrongState ∧ (kind = 1 → out .wrongState))))

/-- The oldest queued suspect is settled at its deadline: a TOO_SOON suspect is rejected, a NO_SECTOR suspect accepted.
REJECT takes an entry out and changes nothing else; ACCEPT takes any queued entry, in every heat mode. An accepted NO_SECTOR
suspect that is not superseded, lies at least the lockout after the last crossing, and is of a lane that is not FINISHED, is
a timed lap flagged NO_SECTOR and ADJUDICATED, with CAPPED and PENALTY_LAP by the marks of its context, and UNDER_CALL by the
model's own mark (log entry 36); every other accepted suspect is a credited lap, without a time, which leaves the last
crossing and the best lap (R26 to R28, R34, R35, R72, R75, R79; its number: `SaturatedAndCreditedLaps`). Where L stands at
65,535 it stays, no entry is added and SATURATION is raised (R73). LAP is posted and every LAPS counter counts the lap (R84,
R190). A number that is not queued is refused with NO_ENTRY. A timed lap that is a finish: `AcceptedLapsFinishTheLane`. -/
def Obligations.SuspectsAreResolved : Prop :=
  (∀ (p : Port) (seq : Word) (s : State), Ready s p → s.role p = .control →
    ((∃ x ∈ s.queue, x.seq = seq.toNat) →
      exec (.reject p seq) s = .next { s with
        queue := s.queue.filter fun x => x.seq != seq.toNat
        ports := portsAnswered p 17 ⟨.done, seq⟩ [] none s }) ∧
    ((∀ x ∈ s.queue, x.seq ≠ seq.toNat) →
      exec (.reject p seq) s = .next { s with ports := portsRefused p 17 .noEntry s } ∧
      exec (.accept p seq) s = .next { s with ports := portsRefused p 16 .noEntry s })) ∧
  (∀ (x : Suspect) (rest : List Suspect) (s : State), s.pins.reset = false → s.queue = x :: rest →
    x.reason = .tooSoon → s.staging.adjudicationWindow * 1000 ≤ elapsed s.now x.arrival →
    exec .adjudicationDeadline s = .next (settle { s with queue := rest })) ∧
  (∀ (c : Instr) (x : Suspect) (s : State), s.pins.reset = false → (s.queue.map Suspect.seq).Nodup → x ∈ s.queue →
    (c = .adjudicationDeadline ∧ s.queue.head? = some x ∧ x.reason = .noSector ∧
        s.staging.adjudicationWindow * 1000 ≤ elapsed s.now x.arrival ∨
      ∃ p seq, c = .accept p seq ∧ seq.toNat = x.seq ∧ Ready s p ∧ s.role p = .control) →
    let r := s.lane x.lane
    let rest := s.queue.filter fun y => y.seq != x.seq
    let timed := x.reason = .noSector ∧ x.superseded = false ∧ r.status ≠ .finished ∧ r.lastCrossing < x.capture ∧
      s.staging.lockout * 1000 ≤ x.capture - r.lastCrossing
    let plain (h : List Lap) : List Lap := h.map fun y => { y with flags := { y.flags with best := false } }
    ¬ (timed ∧ FinishesAt s x.lane x.capture) →
    ∃ t, exec c s = .next t ∧ (t.lane x.lane).laps = min 65535 (r.laps + 1) ∧
      (65535 ≤ r.laps → plain (t.lane x.lane).history = plain r.history ∧ t.exceptions.saturation.flag = true ∧
        (s.exceptions.saturation.flag = false → t.exceptions.saturation.capture =
          some ⟨some x.lane, none, s.heat.raceClock, s.now, .lapsCounted⟩)) ∧ (t.lane x.lane).status = r.status ∧
      (t.lane x.lane).bestLap = r.bestLap ∧ (t.lane x.lane).timePenalty = r.timePenalty ∧
      (t.lane x.lane).finishTime = r.finishTime ∧ t.heat = s.heat ∧ t.book = s.book ∧ t.channels = s.channels ∧
      (∀ q, (t.ports.get q).alerts.has .lap = true) ∧ CountsOne .laps s t ∧
      (∀ m, m ≠ x.lane → t.lane m =
        { s.lane m with position := (t.lane m).position, deadHeat := (t.lane m).deadHeat } ∧
        t.contexts.get m = s.contexts.get m) ∧
      (timed →
        (t.lane x.lane).lastCrossing = x.capture ∧ (t.lane x.lane).lastLap = some (x.capture - r.lastCrossing) ∧
        (t.lane x.lane).timedCount = r.timedCount + 1 ∧
        (t.lane x.lane).timedSum = r.timedSum + (x.capture - r.lastCrossing) ∧
        (t.lane x.lane).averageLap = averageOf s.staging (t.lane x.lane).timedCount (t.lane x.lane).timedSum ∧
        (t.contexts.get x.lane).referenceSet = true ∧ (t.contexts.get x.lane).stopGoMark = false ∧
        (t.contexts.get x.lane).capMark = (s.channels.get x.lane).cap.serving.isSome ∧
        (t.contexts.get x.lane).underCallMark = false ∧
        (∀ m, (s.contexts.get x.lane).sectorMark = some m →
          (x.capture < m → (t.contexts.get x.lane).sectorMark = some m ∧
            (t.lane x.lane).split = some (m - x.capture)) ∧
          (m ≤ x.capture → (t.contexts.get x.lane).sectorMark = none ∧ (t.lane x.lane).split = none)) ∧
        (r.laps < 65535 → ∃ lap, (t.lane x.lane).history.getLast? = some lap ∧ lap.number = r.laps + 1 ∧ lap.closeTime = x.capture ∧
          lap.lapTime = some (x.capture - r.lastCrossing) ∧
          lap.flags = { noSector := true, adjudicated := true
                        capped := (s.contexts.get x.lane).capMark, penaltyLap := (s.contexts.get x.lane).stopGoMark
                        underCall := (s.contexts.get x.lane).underCallMark } ∧
          (∀ m, r.split = some m → lap.split = if m < x.capture - r.lastCrossing then some m else none) ∧
          (r.split = none → lap.split = none)) ∧
        t.queue = rest.map (fun q =>
          if q.lane = x.lane ∧ q.capture < x.capture then { q with superseded := true } else q)) ∧
      (¬ timed →
        (t.lane x.lane).lastCrossing = r.lastCrossing ∧ (t.lane x.lane).lastLap = r.lastLap ∧
        (t.lane x.lane).timedCount = r.timedCount ∧ (t.lane x.lane).timedSum = r.timedSum ∧
        t.contexts = s.contexts ∧ t.queue = rest ∧
        (r.laps < 65535 → r.history.length < 32 →
          ∃ lap ∈ (t.lane x.lane).history, lap.closeTime = x.capture ∧ lap.lapTime = none ∧
            lap.flags = { credited := true, adjudicated := true })) ∧
      (∀ p seq, c = .accept p seq → ∃ n, (t.ports.get p).response = some ⟨.done, 16, BitVec.ofNat 16 n⟩ ∧
        (timed → n = if r.laps < 65535 then r.laps + 1 else 0)))

/-- A line crossing that passes the tests, and is no finish, of a lane whose L is 65,535: L stays, no entry is added,
SATURATION is raised, and times and statistics follow as for any lap (R73, R69, R70). The ACCEPT of a TOO_SOON suspect is a
credited lap: its number is one more than the highest number among the entries closed not later than its capture, or 1 where
there is none and the history holds lap 1 or nothing at all has been counted, else L + 1; entries of that number or more are
renumbered up by one, the best lap number with them, the newest 32 entries stay, L rises by one, and the number is answered;
at L of 65,535 the lane keeps L and its history, SATURATION is raised and 0 answered. Every LAPS counter counts each such lap
(R28, R35, R73, R74, R75, R76, R84, R190). A finish at L of 65,535: `LapsFinishTheLane`, `AcceptedLapsFinishTheLane`. -/
def Obligations.SaturatedAndCreditedLaps : Prop :=
  (∀ (l : Lane) (k : DetKind) (b : Bool) (c : Nat) (at' : StationTime) (s : State),
    Crosses s l k b c → InPlay s l → TimingLine s l k → TakesLap s c → PassesTests s l k c → ¬ FinishesAt s l c →
    let r := s.lane l
    let standing := (s.contexts.get l).referenceSet = false
    r.laps = 65535 →
    ∃ t, exec (.filteredLevelChange l k b c at') s = .next t ∧ (t.lane l).laps = 65535 ∧
      (t.lane l).history.map (fun x => { x with flags := { x.flags with best := false } }) =
        r.history.map (fun x => { x with flags := { x.flags with best := false } }) ∧
      (t.lane l).lastCrossing = c ∧ (t.lane l).lastLap = some (c - r.lastCrossing) ∧ (t.lane l).status = r.status ∧
      (t.lane l).timedCount = (if standing then r.timedCount else r.timedCount + 1) ∧
      (t.lane l).timedSum = (if standing then r.timedSum else r.timedSum + (c - r.lastCrossing)) ∧
      CountsOne .laps s t ∧ t.exceptions.saturation.flag = true ∧
      (s.exceptions.saturation.flag = false → t.exceptions.saturation.capture =
        some ⟨some l, none, s.heat.raceClock, s.now, .lapsCounted⟩)) ∧
  (∀ (p : Port) (seq : Word) (x : Suspect) (s : State), Ready s p → s.role p = .control →
    (s.queue.map Suspect.seq).Nodup → x ∈ s.queue → seq.toNat = x.seq → x.reason = .tooSoon →
    let r := s.lane x.lane
    let earlier := r.history.filter fun y => decide (y.closeTime ≤ x.capture)
    let early := (∃ y ∈ r.history, y.number = 1) ∨ r.history = [] ∧ r.laps = 0
    (r.laps < 65535 →
      ∃ t n, exec (.accept p seq) s = .next t ∧
        (t.ports.get p).response = some ⟨.done, 16, BitVec.ofNat 16 n⟩ ∧
        (earlier ≠ [] → (∀ y ∈ earlier, y.number < n) ∧ ((∃ y ∈ earlier, n = y.number + 1))) ∧
        (earlier = [] → early → n = 1) ∧ (earlier = [] → ¬ early → n = r.laps + 1) ∧
        CountsOne .laps s t ∧ (t.lane x.lane).laps = r.laps + 1 ∧
        (t.lane x.lane).history =
          ((r.history.filter fun y => decide (y.number < n)) ++
            (⟨n, x.capture, none, none, { credited := true, adjudicated := true }⟩ : Lap) ::
            ((r.history.filter fun y => decide (n ≤ y.number)).map fun y => { y with number := y.number + 1 })).drop
              (r.history.length + 1 - 32) ∧
        (t.lane x.lane).bestNumber = r.bestNumber.map (fun m => if n ≤ m then m + 1 else m) ∧
        (t.lane x.lane).bestLap = r.bestLap ∧ (t.lane x.lane).lastCrossing = r.lastCrossing ∧
        (t.lane x.lane).averageLap = r.averageLap ∧ (t.lane x.lane).split = r.split ∧
        (t.lane x.lane).status = r.status) ∧
    (r.laps = 65535 →
      ∃ t, exec (.accept p seq) s = .next t ∧ (t.ports.get p).response = some ⟨.done, 16, 0⟩ ∧
        (t.lane x.lane).laps = 65535 ∧ (t.lane x.lane).history = r.history ∧
        (t.lane x.lane).bestNumber = r.bestNumber ∧ (t.lane x.lane).lastCrossing = r.lastCrossing ∧
        CountsOne .laps s t ∧ t.exceptions.saturation.flag = true))

/-- An accepted NO_SECTOR suspect that becomes a timed lap and meets a finish test finishes its lane, whether ACCEPT or the
deadline accepts it: FINISHED, finish time the capture time, its history entry flagged FINAL, its channels closed; where L
stands at 65,535 no entry is added, 0 is answered and SATURATION is raised, and the finish takes effect all the same (R73).
LAP is posted and every LAPS counter counts the lap (R84, R190). UNDER_CALL of a lap that a stop-go begun under a call opened
is the model's choice (log entry 36). The first finish of a LAP_TARGET heat sets the finish reference, not in ENDED, and
takes GREEN to FINISHING or makes a called heat finishing-bound; where it leaves no lane RUNNING in a race the heat ends
ALL_FINISHED (R35, R57, R58, R72, R77 to R79). -/
def Obligations.AcceptedLapsFinishTheLane : Prop :=
  ∀ (c : Instr) (x : Suspect) (s : State), s.pins.reset = false → (s.queue.map Suspect.seq).Nodup → x ∈ s.queue →
    (c = .adjudicationDeadline ∧ s.queue.head? = some x ∧
        s.staging.adjudicationWindow * 1000 ≤ elapsed s.now x.arrival ∨
      ∃ p seq, c = .accept p seq ∧ seq.toNat = x.seq ∧ Ready s p ∧ s.role p = .control) →
    let l := x.lane
    let r := s.lane l
    x.reason = .noSector → x.superseded = false → r.lastCrossing < x.capture →
    s.staging.lockout * 1000 ≤ x.capture - r.lastCrossing → FinishesAt s l x.capture →
    let plain (h : List Lap) : List Lap := h.map fun y => { y with flags := { y.flags with best := false } }
    let first := s.staging.heatMode = .lapTarget ∧ s.heat.finishReference = none ∧ s.phase ≠ .ended
    let others := ∃ m, m ≠ l ∧ (s.lane m).status = .running
    let racing := s.phase = .green ∨ s.phase = .hold ∨ s.phase = .resuming ∨ s.phase = .finishing
    ∃ t, exec c s = .next t ∧
      (t.lane l).status = .finished ∧ (t.lane l).finishTime = some x.capture ∧
      (t.lane l).laps = min 65535 (r.laps + 1) ∧ (t.lane l).lastCrossing = x.capture ∧
      (t.lane l).lastLap = some (x.capture - r.lastCrossing) ∧
      (r.laps < 65535 → ∃ lap, (t.lane l).history.getLast? = some lap ∧ lap.number = r.laps + 1 ∧
        lap.closeTime = x.capture ∧ lap.lapTime = some (x.capture - r.lastCrossing) ∧
        lap.flags = { noSector := true, adjudicated := true, final := true
                      capped := (s.contexts.get l).capMark, penaltyLap := (s.contexts.get l).stopGoMark
                      underCall := (s.contexts.get l).underCallMark }) ∧
      (65535 ≤ r.laps → plain (t.lane l).history = plain r.history ∧ t.exceptions.saturation.flag = true ∧
        (s.exceptions.saturation.flag = false → t.exceptions.saturation.capture =
          some ⟨some l, none, s.heat.raceClock, s.now, .lapsCounted⟩)) ∧
      (∀ q, (t.ports.get q).alerts.has .lap = true) ∧ CountsOne .laps s t ∧
      t.channels.get l = ⟨⟨[], none⟩, ⟨[], none⟩⟩ ∧
      (∀ m, m ≠ l → (t.lane m).status = (s.lane m).status ∧ (t.lane m).laps = (s.lane m).laps) ∧
      t.queue.map Suspect.seq = (s.queue.filter fun y => y.seq != x.seq).map Suspect.seq ∧
      (first → t.heat.finishReference = some x.capture) ∧ (¬ first → t.heat.finishReference = s.heat.finishReference) ∧
      (racing → ¬ others → t.phase = .ended ∧ t.heat.ending = some .allFinished) ∧
      (others → first → s.phase = .green → t.phase = .finishing ∧
        t.heat.finishingStart = some (s.heat.finishingStart.getD s.now) ∧ t.heat.greenLit = true ∧
        (∀ q, (t.ports.get q).alerts.has .phase = true)) ∧
      (others → first → s.phase = .hold ∨ s.phase = .resuming → t.phase = s.phase ∧
        t.heat.resumeTarget = some .finishing) ∧
      (others → ¬ first → t.heat = s.heat) ∧
      (¬ racing → t.heat = { s.heat with finishReference := t.heat.finishReference }) ∧
      (∀ p seq, c = .accept p seq → (t.ports.get p).response = 
        some ⟨.done, 16, if r.laps < 65535 then BitVec.ofNat 16 (r.laps + 1) else 0⟩)

/-! ### Penalties -/

/-- A CALL is checked in this order: kind code, role for the kind, phase for the role, lane, lane status and phase for the
kind; the first that fails names the refusal, and nothing but the ports changes (R109, R113, R180). -/
def Obligations.CallChecksInOrder : Prop :=
  ∀ (p : Port) (lane kind amount : Byte) (s : State), Ready s p → s.role p ≠ .display →
    let refused (r : Reason) : Prop :=
      exec (.call p lane kind amount) s = .next { s with ports := portsRefused p 11 r s }
    let late := s.phase = .settling ∨ s.phase = .ended
    let phaseTaken := s.phase = .green ∨ s.phase = .hold ∨ s.phase = .resuming ∨ s.phase = .finishing ∨
      s.role p = .control ∧ (s.phase = .countdown ∨ late)
    let kindTaken := s.role p = .control ∨ kind.toNat ≤ 2
    (6 ≤ kind.toNat → refused .unknownRequest) ∧
    (kind.toNat < 6 → ¬ kindTaken → refused .role) ∧
    (kind.toNat < 6 → kindTaken → ¬ phaseTaken → refused .wrongPhase) ∧
    (kind.toNat < 6 → kindTaken → phaseTaken → lane.toNat = 0 ∨ 8 < lane.toNat → refused .noLane) ∧
    (∀ l : Lane, lane.toNat = l.num → kind.toNat < 6 → kindTaken → phaseTaken →
      ((s.lane l).status = .out → refused .noLane) ∧
      ((s.lane l).status = .stoodDown → refused .wrongState) ∧
      (kind = 4 → (s.lane l).status = .finished → refused .wrongState) ∧
      (kind = 4 → (s.lane l).status ≠ .out → late → refused .wrongState))

/-- A CALL that passes its checks and is not merged creates an entry in the lowest EMPTY slot, or where there is none in the
slot of the entry that closed first, which is dropped and counted, under a number no other entry holds, with its amount
clamped to its kind's range; a marshal call waits as CALLED where marshal calls are confirmed, any other is ACTIVE at once
and acts by its kind: WARNING is SERVED, TIME_ADD raises TP, LAP_DEDUCT raises D (or in a LAP_TARGET heat TP of a FINISHED
lane), STANDDOWN stands the lane down and ends the heat ALL_FINISHED where it was the last RUNNING one, STOP_GO and POWER_CAP
wait in their channel, a STOP_GO of a lane whose racing is over is converted (R58, R67, R105, R106, R108 to R110, R116 to
R120, R122). -/
def Obligations.CallCreatesAnEntry : Prop :=
  ∀ (p : Port) (lane code amount : Byte) (l : Lane) (kind : Kind) (k : Nat) (s : State), Ready s p →
    (s.role p = .control ∨ s.role p = .marshal ∧ code.toNat ≤ 2 ∧ s.phase.racing = true ∧
      (∀ j < 16, mergesWith s l kind (s.entry j) = false)) →
    (s.phase = .countdown ∨ s.phase = .green ∨ s.phase = .hold ∨ s.phase = .resuming ∨ s.phase = .finishing ∨
      s.phase = .settling ∨ s.phase = .ended) →
    lane.toNat = l.num → code.toNat = kind.code →
    (s.lane l).status ≠ .out → (s.lane l).status ≠ .stoodDown →
    (kind = .powerCap → (s.lane l).status ≠ .finished ∧ s.phase ≠ .settling ∧ s.phase ≠ .ended) →
    s.book.slots.length = 16 → 1 ≤ s.book.nextSeq → s.book.nextSeq ≤ 65535 → TakesSlot s k →
    let a := clampAmount kind amount.toNat
    let called := s.role p = .marshal ∧ s.staging.confirmMarshalCalls = true
    let raced := (s.lane l).status = .finished ∨ s.phase = .settling ∨ s.phase = .ended
    let deductsTime := s.staging.heatMode = .lapTarget ∧ (s.lane l).status = .finished
    let last := (s.lane l).status = .running ∧ s.phase.racing = true ∧ ∀ m, m ≠ l → (s.lane m).status ≠ .running
    ∃ t n, exec (.call p lane code amount) s = .next t ∧ 1 ≤ n ∧ n ≤ 65535 ∧
      (∀ j < 16, j ≠ k → (s.entry j).tag ≠ .empty → (s.entry j).seq ≠ n) ∧ t.book.dropped = droppedWith s k ∧
      (t.ports.get p).response = some ⟨.done, 11, BitVec.ofNat 16 n⟩ ∧
      (∀ q, (t.ports.get q).alerts.has .penalty = true) ∧
      (t.entry k).seq = n ∧ (t.entry k).lane = l ∧ (t.entry k).kind = kind ∧ (t.entry k).amount = a ∧
      (t.entry k).origin = (if s.role p = .marshal then .marshal p else .control) ∧
      (t.entry k).callTime = s.heat.raceClock ∧ (t.entry k).callStation = s.now ∧ (t.entry k).mergeCount = 0 ∧
      (kind ≠ .standdown → ∀ j < 16, j ≠ k → t.entry j = s.entry j) ∧
      t.staging = s.staging ∧ t.queue = s.queue ∧ t.deslots = s.deslots ∧ t.contexts = s.contexts ∧
      ((t.entry k).tag = .called ∨ (t.entry k).tag = .active → t.book.closed = closedWithout s k) ∧
      ((t.entry k).tag = .served → kind ≠ .standdown → t.book.closed = closedWithout s k ++ [k]) ∧
      (kind = .standdown → ¬ called → (closedWithout s k ++ [k]) <+: t.book.closed) ∧
      (called → (t.entry k).tag = .called ∧ (t.entry k).activationTime = none ∧ t.lanes = s.lanes ∧ t.order = s.order ∧
        t.channels = s.channels ∧ t.heat = s.heat) ∧
      (¬ called → (t.entry k).activationTime = some s.heat.raceClock ∧
        (kind = .warning → (t.entry k).tag = .served ∧ t.lanes = s.lanes ∧ t.channels = s.channels) ∧
        (kind = .timeAdd → (t.entry k).tag = .served ∧
          (t.lane l).timePenalty = min 4294967295 ((s.lane l).timePenalty + a * 100000)) ∧
        (kind = .lapDeduct → ¬ deductsTime → (t.entry k).tag = .served ∧ (t.entry k).outcomes.converted = false ∧
          (t.lane l).deducted = min 999 ((s.lane l).deducted + a)) ∧
        (kind = .lapDeduct → deductsTime → (t.entry k).tag = .served ∧ (t.entry k).outcomes.converted = true ∧
          (t.lane l).deducted = (s.lane l).deducted ∧
          (t.lane l).timePenalty = min 4294967295 ((s.lane l).timePenalty + a * (s.lane l).referenceLap)) ∧
        (kind = .standdown → (t.entry k).tag = .served ∧ (t.lane l).status = .stoodDown ∧
          t.channels.get l = ⟨⟨[], none⟩, ⟨[], none⟩⟩ ∧
          (last → t.phase = .ended ∧ t.heat.ending = some .allFinished) ∧ (¬ last → t.heat = s.heat)) ∧
        (kind ≠ .standdown → t.heat = s.heat) ∧
        (kind = .stopGo → ¬ raced → (t.entry k).tag = .active ∧ (t.entry k).progress = some (a * 1000) ∧
          n ∈ (t.channels.get l).stop.waiting ∧ t.lanes = s.lanes) ∧
        (kind = .stopGo → raced → (t.entry k).tag = .served ∧ (t.entry k).outcomes.converted = true ∧
          (t.lane l).timePenalty = min 4294967295 ((s.lane l).timePenalty + a * 100000)) ∧
        (kind = .powerCap → (t.entry k).tag = .active ∧ (t.entry k).progress = some a ∧
          n ∈ (t.channels.get l).cap.waiting ∧ t.lanes = s.lanes))

/-- With no EMPTY slot a call of any kind, from race control or a marshal, takes the slot of the entry that closed first: that
entry is dropped, the dropped-record count rises, up to 255, and the other entries stay but for those that a STANDDOWN closes.
The same for the automatic calls of a jump start and of an escalation. With every entry open a station's call is refused with
BOOK_FULL and BOOK is raised with the port and the detail REFUSED, the book unchanged (R122 to R124, R126; an automatic call
then: `JumpStartIsCalledOnce`, `DeslotsCountAndEscalate`). What the new entry holds: `CallCreatesAnEntry`. The closing order
holds the slots of the closed entries (`ChannelsHoldOpenEntries`). -/
def Obligations.FullBookIsRecycled : Prop :=
  (∀ (p : Port) (lane code amount : Byte) (l : Lane) (kind : Kind) (s : State), Ready s p →
    (s.role p = .control ∨ s.role p = .marshal ∧ code.toNat ≤ 2 ∧ s.phase.racing = true ∧
      (∀ j < 16, mergesWith s l kind (s.entry j) = false)) →
    (s.phase = .countdown ∨ s.phase = .green ∨ s.phase = .hold ∨ s.phase = .resuming ∨ s.phase = .finishing ∨
      s.phase = .settling ∨ s.phase = .ended) →
    lane.toNat = l.num → code.toNat = kind.code → (s.lane l).status ≠ .out → (s.lane l).status ≠ .stoodDown →
    (kind = .powerCap → (s.lane l).status ≠ .finished ∧ s.phase ≠ .settling ∧ s.phase ≠ .ended) →
    s.book.slots.length = 16 → (∀ j < 16, (s.entry j).tag ≠ .empty) →
    (∀ (k : Nat) (rest : List Nat), s.book.closed = k :: rest → k < 16 →
      ∃ t, exec (.call p lane code amount) s = .next t ∧ t.book.dropped = min 255 (s.book.dropped + 1) ∧
        t.book.slots.length = 16 ∧ (t.entry k).lane = l ∧ (t.entry k).kind = kind ∧
        (t.entry k).origin = (if s.role p = .marshal then .marshal p else .control) ∧
        (t.entry k).callTime = s.heat.raceClock ∧ (t.entry k).callStation = s.now ∧
        (t.ports.get p).response = some ⟨.done, 11, BitVec.ofNat 16 (t.entry k).seq⟩ ∧
        (kind ≠ .standdown → ∀ j < 16, j ≠ k → t.entry j = s.entry j) ∧ rest <+: t.book.closed) ∧
    (s.book.closed = [] →
      ∃ t, exec (.call p lane code amount) s = .next t ∧ t.exceptions.book.flag = true ∧
        (s.exceptions.book.flag = false → t.exceptions.book.capture =
          some ⟨some l, some (.port p), s.heat.raceClock, s.now, .refused⟩) ∧
        (t.ports.get p).response = some ⟨.refused .bookFull, 11, 0⟩ ∧
        { t with ports := s.ports, exceptions := s.exceptions } = s)) ∧
  (∀ (l : Lane) (b : Bool) (c : Nat) (at' : StationTime) (s : State),
    Crosses s l .line b c → InPlay s l →
    (s.phase = .countdown ∨
      c = 0 ∧ (s.phase = .green ∨ s.phase = .hold ∨ s.phase = .resuming ∨ s.phase = .finishing)) →
    s.heat.jumpMarks.get l = false → s.book.slots.length = 16 → (∀ j < 16, (s.entry j).tag ≠ .empty) →
    ∀ (k : Nat) (rest : List Nat), s.book.closed = k :: rest → k < 16 →
      ∃ t, exec (.filteredLevelChange l .line b c at') s = .next t ∧
        t.book.dropped = min 255 (s.book.dropped + 1) ∧ (t.entry k).lane = l ∧
        (t.entry k).kind = s.staging.jumpKind.kind ∧ (t.entry k).origin = .jumpStart ∧
        t.book.closed = (if s.staging.jumpKind = .stopGo then rest else rest ++ [k]) ∧
        (∀ j < 16, j ≠ k → t.entry j = s.entry j)) ∧
  (∀ (p : Port) (lane : Byte) (l : Lane) (s : State), Ready s p → s.role p ≠ .display →
    (s.phase = .green ∨ s.phase = .hold ∨ s.phase = .resuming ∨ s.phase = .finishing) → lane.toNat = l.num →
    (s.lane l).status = .running →
    (s.role p = .control ∨ (s.deslots.get l).mark = none ∨
      ∃ m, (s.deslots.get l).mark = some m ∧ s.staging.mergeWindow * 1000 ≤ elapsed s.now m) →
    s.staging.escalationThreshold ≠ 0 → min 255 ((s.deslots.get l).count + 1) = s.staging.escalationThreshold →
    s.book.slots.length = 16 → (∀ j < 16, (s.entry j).tag ≠ .empty) →
    ∀ (k : Nat) (rest : List Nat), s.book.closed = k :: rest → k < 16 →
      ∃ t, exec (.deslot p lane) s = .next t ∧ t.book.dropped = min 255 (s.book.dropped + 1) ∧
        t.book.closed = rest ∧ (t.entry k).lane = l ∧ (t.entry k).kind = .powerCap ∧
        (t.entry k).origin = .deslotEscalation ∧ (t.entry k).tag = .active ∧
        (∀ j < 16, j ≠ k → t.entry j = s.entry j))

/-- A second marshal's CALL of a lane and kind within the merge window of an open marshal entry is merged into it, and a
second marshal's DESLOT within the window of the last counted marshal report is merged: MERGED is answered, the MERGES
counters count it, and the entry's merge count alone changes (R112, R124, R190). -/
def Obligations.MarshalReportsMerge : Prop :=
  (∀ (p q : Port) (lane code amount : Byte) (l : Lane) (kind : Kind) (k : Nat) (s : State), Ready s p →
    s.role p = .marshal → (s.phase = .green ∨ s.phase = .hold ∨ s.phase = .resuming ∨ s.phase = .finishing) →
    lane.toNat = l.num → code.toNat = kind.code → code.toNat ≤ 2 →
    (s.lane l).status ≠ .out → (s.lane l).status ≠ .stoodDown →
    s.book.slots.length = 16 → k < 16 → (s.entry k).tag = .called ∨ (s.entry k).tag = .active →
    (s.entry k).origin = .marshal q → (s.entry k).lane = l → (s.entry k).kind = kind →
    elapsed s.now (s.entry k).callStation < s.staging.mergeWindow * 1000 →
    (∀ j < 16, j ≠ k → mergesWith s l kind (s.entry j) = true →
      elapsed s.now (s.entry k).callStation < elapsed s.now (s.entry j).callStation) →
    exec (.call p lane code amount) s = .next { s with
      book := { s.book with
        slots := s.book.slots.set k { s.entry k with mergeCount := min 15 ((s.entry k).mergeCount + 1) } }
      ports := portsAnswered p 11 ⟨.merged, BitVec.ofNat 16 (s.entry k).seq⟩ [] (some .merges) s }) ∧
  (∀ (p : Port) (lane : Byte) (l : Lane) (m : StationTime) (s : State), Ready s p → s.role p = .marshal →
    (s.phase = .green ∨ s.phase = .hold ∨ s.phase = .resuming ∨ s.phase = .finishing) → lane.toNat = l.num →
    (s.lane l).status = .running → (s.deslots.get l).mark = some m → elapsed s.now m < s.staging.mergeWindow * 1000 →
    exec (.deslot p lane) s = .next { s with
      ports := portsAnswered p 14 ⟨.merged, BitVec.ofNat 16 (s.deslots.get l).count⟩ [] (some .merges) s })

/-- A DESLOT that is not merged raises the lane's deslot count, zeroes its clean laps and, from a marshal, moves the merge
mark; a count that reaches the threshold makes an automatic POWER_CAP call of the staged laps, in the lowest EMPTY slot or
where there is none that of the entry that closed first, and becomes 0. DESLOT names a RUNNING lane from GREEN to FINISHING
(R124, R126). With every slot of the book open that call is lost and BOOK raised with the detail LOST, the count 0 all the
same (R122). -/
def Obligations.DeslotsCountAndEscalate : Prop :=
  ∀ (p : Port) (lane : Byte) (l : Lane) (s : State), Ready s p → s.role p ≠ .display →
    let racing := s.phase = .green ∨ s.phase = .hold ∨ s.phase = .resuming ∨ s.phase = .finishing
    let refused (r : Reason) : Prop := exec (.deslot p lane) s = .next { s with ports := portsRefused p 14 r s }
    let d := s.deslots.get l
    let n := min 255 (d.count + 1)
    let fresh := s.role p = .control ∨ d.mark = none ∨
      ∃ m, d.mark = some m ∧ s.staging.mergeWindow * 1000 ≤ elapsed s.now m
    (¬ racing → refused .wrongPhase) ∧
    (racing → lane.toNat = 0 ∨ 8 < lane.toNat → refused .noLane) ∧
    (racing → lane.toNat = l.num →
      ((s.lane l).status = .out → refused .noLane) ∧
      ((s.lane l).status = .grid ∨ (s.lane l).status = .finished ∨ (s.lane l).status = .stoodDown →
        refused .wrongState) ∧
      ((s.lane l).status = .running → fresh → s.staging.escalationThreshold = 0 ∨ n ≠ s.staging.escalationThreshold →
        exec (.deslot p lane) s = .next { settle { s with
            deslots := s.deslots.set l ⟨n, 0, if s.role p = .marshal then some s.now else d.mark⟩ }
          with ports := portsAnswered p 14 ⟨.done, BitVec.ofNat 16 n⟩ [] none s }) ∧
      (∀ k, (s.lane l).status = .running → fresh → s.staging.escalationThreshold ≠ 0 →
        n = s.staging.escalationThreshold → s.book.slots.length = 16 → TakesSlot s k →
        ∃ t, exec (.deslot p lane) s = .next t ∧ (t.deslots.get l).count = 0 ∧ (t.deslots.get l).clean = 0 ∧
          (t.ports.get p).response = some ⟨.done, 14, 0⟩ ∧
          (t.entry k).kind = .powerCap ∧ (t.entry k).lane = l ∧ (t.entry k).origin = .deslotEscalation ∧
          (t.entry k).amount = clampAmount .powerCap s.staging.escalationCapLaps ∧ (t.entry k).tag = .active ∧
          (t.entry k).seq ∈ (t.channels.get l).cap.waiting ∧ t.book.dropped = droppedWith s k ∧
          t.book.closed = closedWithout s k ∧ t.lanes = s.lanes ∧ t.heat = s.heat ∧
          (∀ j < 16, j ≠ k → t.entry j = s.entry j)) ∧
      ((s.lane l).status = .running → fresh → s.staging.escalationThreshold ≠ 0 → n = s.staging.escalationThreshold →
        s.book.slots.length = 16 → (∀ j < 16, (s.entry j).tag ≠ .empty) → s.book.closed = [] →
        ∃ t, exec (.deslot p lane) s = .next t ∧ (t.deslots.get l).count = 0 ∧ (t.deslots.get l).clean = 0 ∧
          (t.ports.get p).response = some ⟨.done, 14, 0⟩ ∧ t.book = s.book ∧ t.channels = s.channels ∧
          t.lanes = s.lanes ∧ t.exceptions.book.flag = true ∧
          (s.exceptions.book.flag = false → t.exceptions.book.capture =
            some ⟨some l, some .deslotEscalation, s.heat.raceClock, s.now, .lost⟩)))

/-- CONFIRM makes a CALLED entry ACTIVE, which acts by its kind, a STOP_GO of a lane whose racing is over being converted
(R111, R120); a CALLED entry that reaches its confirm window is WAIVED with LAPSED; WAIVE closes an open entry and takes it
out of its channel. Each refuses a number no entry holds with NO_ENTRY, and one whose tag it does not fit with WRONG_STATE
(R107, R114, R115, R121, R138). -/
def Obligations.EntriesAreConfirmedOrWaived : Prop :=
  (∀ (p : Port) (seq : Word) (k : Nat) (s : State), Ready s p → s.role p = .control → s.book.slots.length = 16 →
    let e := s.entry k
    let raced := (s.lane e.lane).status = .finished ∨ (s.lane e.lane).status = .stoodDown ∨ s.phase = .settling ∨
      s.phase = .ended
    let empty := { s with ports := portsRefused p 12 .noEntry s }
    let closed (o : Outcomes) : Book :=
      { s.book with
        slots := s.book.slots.set k { e with tag := .waived, closeTime := some s.heat.raceClock, outcomes := o }
        closed := s.book.closed ++ [k] }
    let left : Channels :=
      let c := s.channels.get e.lane
      let drop (x : Channel) : Channel :=
        ⟨x.waiting.filter (· != e.seq), if x.serving = some e.seq then none else x.serving⟩
      ⟨drop c.stop, drop c.cap⟩
    (NumberFree s seq.toNat → exec (.confirm p seq) s = .next empty ∧
      exec (.waive p seq) s = .next { s with ports := portsRefused p 13 .noEntry s }) ∧
    (slotOf s.book seq.toNat = some k → e.tag ≠ .called →
      exec (.confirm p seq) s = .next { s with ports := portsRefused p 12 .wrongState s }) ∧
    (slotOf s.book seq.toNat = some k → e.tag = .served ∨ e.tag = .waived →
      exec (.waive p seq) s = .next { s with ports := portsRefused p 13 .wrongState s }) ∧
    (slotOf s.book seq.toNat = some k → e.tag = .called ∨ e.tag = .active ∨ e.tag = .serving →
      exec (.waive p seq) s = .next { settle { s with
          book := closed e.outcomes
          channels := s.channels.set e.lane left }
        with ports := portsAnswered p 13 ⟨.done, seq⟩ [.penalty] none s }) ∧
    (s.pins.reset = false → k < 16 → e.tag = .called → s.staging.confirmWindow * 1000 ≤ elapsed s.now e.callStation →
      exec (.confirmWindowLapse k) s = .next { s with
        book := closed { e.outcomes with lapsed := true }
        ports := portsPosted [.penalty] none s }) ∧
    (slotOf s.book seq.toNat = some k → e.tag = .called →
      ∃ t, exec (.confirm p seq) s = .next t ∧ (t.entry k).activationTime = some s.heat.raceClock ∧
        (t.ports.get p).response = some ⟨.done, 12, seq⟩ ∧ (∀ q, (t.ports.get q).alerts.has .penalty = true) ∧
        (e.kind = .stopGo → (s.lane e.lane).status = .running → s.phase.racing = true →
          (t.entry k).tag = .active ∧ e.seq ∈ (t.channels.get e.lane).stop.waiting ∧ t.lanes = s.lanes) ∧
        (e.kind = .stopGo → raced →
          t.entry k = { e with
            tag := .served, activationTime := some s.heat.raceClock, closeTime := some s.heat.raceClock
            outcomes := { e.outcomes with converted := true } } ∧
          (t.lane e.lane).timePenalty = min 4294967295 ((s.lane e.lane).timePenalty + e.amount * 100000) ∧
          t.channels = s.channels ∧ t.heat = s.heat) ∧
        (e.kind = .powerCap → (t.entry k).tag = .active ∧ e.seq ∈ (t.channels.get e.lane).cap.waiting) ∧
        (e.kind = .warning → (t.entry k).tag = .served ∧ t.lanes = s.lanes) ∧
        (e.kind = .timeAdd → (t.entry k).tag = .served ∧
          (t.lane e.lane).timePenalty =
            min 4294967295 ((s.lane e.lane).timePenalty + e.amount * 100000)) ∧
        (∀ m, m ≠ e.lane → t.channels.get m = s.channels.get m ∨ t.heat.phase = .ended)))

/-- CLEAR BOOK in STAGED and ENDED empties every slot and every channel and answers how many slots held an entry; elsewhere
it is refused with WRONG_PHASE. A serving stop-go whose last millisecond passes outside HOLD is SERVED with progress 0 and
its claim cleared (R127, R134, R135); that its progress reads 1 until STOP_GO_END is taken is the model's choice (log entry
23). -/
def Obligations.BookClearsAndStopGosEnd : Prop :=
  (∀ (p : Port) (s : State), Ready s p → s.role p = .control →
    (s.phase = .staged ∨ s.phase = .ended →
      let n := (s.book.slots.filter fun e => e.tag != .empty).length
      exec (.clearBook p) s = .next { settle { s with
          book := { s.book with
            slots := s.book.slots.map fun e => { e with tag := .empty }
            dropped := 0, closed := [] }
          channels := Lanes.all ⟨⟨[], none⟩, ⟨[], none⟩⟩ }
        with ports := portsAnswered p 15 ⟨.done, BitVec.ofNat 16 n⟩ (if n = 0 then [] else [.penalty]) none s }) ∧
    (s.phase ≠ .staged → s.phase ≠ .ended →
      exec (.clearBook p) s = .next { s with ports := portsRefused p 15 .wrongPhase s })) ∧
  (∀ (l : Lane) (seq k n : Nat) (s : State), s.pins.reset = false → (s.channels.get l).stop.serving = some seq →
    slotOf s.book seq = some k → (s.entry k).progress = some n → n ≤ 1 → powerState s l ≠ .held →
    exec (.stopGoEnd l) s = .next { settle { s with
        book := { s.book with
          slots := s.book.slots.set k
            { s.entry k with tag := .served, progress := some 0, closeTime := some s.heat.raceClock }
          closed := s.book.closed ++ [k] }
        channels := s.channels.set l
          { s.channels.get l with stop := { (s.channels.get l).stop with serving := none } } }
      with ports := portsPosted [.penalty] none s })

/-- Where a lane's racing stops, its channels are closed: a serving STOP_GO is TRUNCATED, each waiting one CONVERTED with its
full amount added to TP, every POWER_CAP UNSERVED, all SERVED at the race clock, the serving entry before the waiting ones
and the stop channel before the cap channel. This for every lane, lane after lane, where grace run out, settle event, clock
cap or END HEAT ends the heat (that order is log entry 22; the clock cap under a call log entry 39), at a crossing that
finishes the lane, and at a STANDDOWN, whose own entry closes first (log entry 17) (R67, R79, R107, R139 to R141). The
premises on numbers and channels are invariants of the part (`NumbersStayInOrder`, `ChannelsHoldOpenEntries`). -/
def Obligations.ChannelsCloseWithTheLane : Prop :=
  (∀ (c : Instr) (e : Ending) (s : State), EndsHeat s c e → NumbersDiffer s → ChannelsAgree s →
    ∃ t, exec c s = .next t ∧ (∀ l, ClosedWithLane s t l) ∧
      t.book.closed = s.book.closed ++ Lane.all.flatMap (channelSlots s)) ∧
  (∀ (l : Lane) (k : DetKind) (b : Bool) (c : Nat) (at' : StationTime) (s : State),
    Crosses s l k b c → InPlay s l → TimingLine s l k → TakesLap s c → PassesTests s l k c → FinishesAt s l c →
    NumbersDiffer s → ChannelsAgree s →
    ∃ t, exec (.filteredLevelChange l k b c at') s = .next t ∧ ClosedWithLane s t l ∧
      (s.book.closed ++ channelSlots s l) <+: t.book.closed) ∧
  (∀ (p : Port) (lane amount : Byte) (l : Lane) (k : Nat) (s : State), Ready s p → s.role p = .control →
    (s.phase = .countdown ∨ s.phase = .green ∨ s.phase = .hold ∨ s.phase = .resuming ∨ s.phase = .finishing ∨
      s.phase = .settling ∨ s.phase = .ended) →
    lane.toNat = l.num → (s.lane l).status ≠ .out → (s.lane l).status ≠ .stoodDown →
    TakesSlot s k → NumbersDiffer s → ChannelsAgree s →
    ∃ t, exec (.call p lane 5 amount) s = .next t ∧ (t.lane l).status = .stoodDown ∧ ClosedWithLane s t l ∧
      (closedWithout s k ++ k :: channelSlots s l) <+: t.book.closed)

/-! ### Lane power -/

/-- The power state of a lane is the first of its table that holds: TRIPPED; OFF outside the race or for a lane that is not
GRID or RUNNING; HELD under a track call; CUT under a serving stop-go; CAPPED under a serving power cap; FULL (R145). At a
PWM period start a lane's drive turns on where its state is FULL or CAPPED and its brake has been off for the dead time, a
capped lane's on-time being fixed then, and no lane's PWM phase is left where the drive did not turn on; an armed retry watch
starts when the drive turns on there; nothing else of a lane changes. The PWM phase of a FULL lane is absent (the model's
choice, log entry 40), and `pulsing` is the model's own field (log entry 37). A capped drive goes off when its on-time has
run; a brake turns on in HELD and CUT when the drive has been off for the dead time. The next period takes the frequency in
force (R147 to R149, R154). Before its time each of the three commands does nothing (the model's choice, log entry 4). -/
def Obligations.PowerStateDrivesTheOutputs : Prop :=
  (∀ (s : State) (l : Lane),
    let racing := s.phase = .green ∨ s.phase = .hold ∨ s.phase = .resuming ∨ s.phase = .finishing
    let under := s.phase = .hold ∨ s.phase = .resuming
    let live := (s.lane l).status = .grid ∨ (s.lane l).status = .running
    let cut := (s.channels.get l).stop.serving ≠ none
    let capped := (s.channels.get l).cap.serving ≠ none
    let up := (s.power.get l).tripped = false
    (powerState s l = .tripped ↔ (s.power.get l).tripped = true) ∧
    (powerState s l = .off ↔ up ∧ (¬ racing ∨ ¬ live)) ∧
    (powerState s l = .held ↔ up ∧ under ∧ live) ∧
    (powerState s l = .cut ↔ up ∧ racing ∧ ¬ under ∧ live ∧ cut) ∧
    (powerState s l = .capped ↔ up ∧ racing ∧ ¬ under ∧ live ∧ ¬ cut ∧ capped) ∧
    (powerState s l = .full ↔ up ∧ racing ∧ ¬ under ∧ live ∧ ¬ cut ∧ ¬ capped)) ∧
  (∀ s : State, s.pins.reset = false →
    let dead := s.staging.deadTime * 8
    let period := match s.staging.pwmFrequency with | .khz4 => 2000 | .khz8 => 1000 | .khz16 => 500
    (s.clock.pwmLeft = 0 →
      ∃ t, exec .pwmPeriodStart s = .next t ∧ t.clock = { s.clock with pwmElapsed := 0, pwmLeft := period } ∧
        { t with clock := s.clock, power := s.power } = s ∧
        ∀ l, ((powerState s l = .full ∨ powerState s l = .capped) →
            ((s.power.get l).drive = true ∨ (s.power.get l).brake = false ∧ dead ≤ (s.power.get l).brakeOff) →
            t.power.get l = { s.power.get l with
              drive := true, driveOff := 0, brake := false
              onTime := if powerState s l = .capped then some (period * s.staging.capDuty / 100) else none
              pulsing := decide (powerState s l = .capped)
              watchStarted := (s.power.get l).watchStarted ||
                (!(s.power.get l).drive && (s.power.get l).retryWatch.isSome) }) ∧
          ((powerState s l ≠ .full ∧ powerState s l ≠ .capped) ∨
              (s.power.get l).drive = false ∧
                ((s.power.get l).brake = true ∨ (s.power.get l).brakeOff < dead) →
            t.power.get l = { s.power.get l with
              drive := false
              driveOff := if (s.power.get l).drive then 0 else (s.power.get l).driveOff
              onTime := none, pulsing := false })) ∧
    (0 < s.clock.pwmLeft → exec .pwmPeriodStart s = .next s) ∧
    (∀ (l : Lane) (on : Nat), powerState s l = .capped → (s.power.get l).drive = true →
      (s.power.get l).onTime = some on →
      (on ≤ s.clock.pwmElapsed → exec (.onTimeEnd l) s = .next { s with
        power := s.power.set l { s.power.get l with drive := false, driveOff := 0 } }) ∧
      (s.clock.pwmElapsed < on → exec (.onTimeEnd l) s = .next s)) ∧
    (∀ l : Lane, powerState s l = .held ∨ powerState s l = .cut → (s.power.get l).drive = false →
      (s.power.get l).brake = false →
      (dead ≤ (s.power.get l).driveOff → exec (.deadTimeEnd l) s = .next { s with
        power := s.power.set l { s.power.get l with brake := true, brakeOff := 0 } }) ∧
      ((s.power.get l).driveOff < dead → exec (.deadTimeEnd l) s = .next s)))

/-- An overcurrent trip takes the lane to TRIPPED with drive and brake off and raises OVERCURRENT. It is TRIP where the mask
is clear or no retry watch runs; else RETRY_FAILED for a retry count of 0 or 1, which it raises, and LOCKED for 2, which
makes the count 3 and the lane LOCKED. With the mask set a lane that is not LOCKED starts its retry delay. A deasserted
sample while the drive is on returns the filtered level (R151 to R153). The input pin takes the level the sample found (the
model's choice, log entry 5). A trip clears when its retry delay has run, which arms a retry watch of 100 ms of drive-on
time; a watch that has run to 0 takes the retry as good; a clean run of 5,000 ms of drive-on time zeroes the retry count
(R153 to R155); before its time each of the three commands does nothing (the model's choice, log entry 4). LANE RESTORE of a
TRIPPED lane, LOCKED or not, clears its trip, lock, retry count, delay and watch and its drive-on run, and answers the power
state it then has; the lane of any other power state is refused with WRONG_STATE, a number that is no lane with NO_LANE, in
every phase (R157). -/
def Obligations.TripsAreClassifiedAndRetried : Prop :=
  (∀ (l : Lane) (s : State), s.pins.reset = false → (s.power.get l).drive = true →
    let x := s.power.get l
    let masked := s.exceptions.overcurrent.mask
    let failed := masked = true ∧ x.retryWatch ≠ none ∧ x.watchStarted = true
    let pin (level : Bool) : Pins := { s.pins with overcurrent := s.pins.overcurrent.set l level }
    (∃ t, exec (.overcurrentTrip l) s = .next t ∧ t.pins = pin true ∧ t.exceptions.overcurrent.flag = true ∧
      (s.exceptions.overcurrent.flag = false → t.exceptions.overcurrent.capture =
        some ⟨some l, none, s.heat.raceClock, s.now,
          if ¬ failed then .trip else if x.retryCount < 2 then .retryFailed else .locked⟩) ∧
      powerState t l = .tripped ∧ (t.power.get l).drive = false ∧ (t.power.get l).brake = false ∧
      (t.power.get l).retryWatch = none ∧ (t.power.get l).driveOnRun = 0 ∧ (t.power.get l).overcurrent = true ∧
      (t.power.get l).retryCount =
        (if ¬ failed then x.retryCount else if x.retryCount < 2 then x.retryCount + 1 else 3) ∧
      ((t.power.get l).locked = true ↔ x.locked = true ∧ ¬ failed ∨ failed ∧ 2 ≤ x.retryCount) ∧
      (t.power.get l).retryDelayEnd =
        (if masked = true ∧ (t.power.get l).locked = false then some (s.now + BitVec.ofNat 32 s.staging.retryDelay)
          else none) ∧
      t.lanes = s.lanes ∧ t.order = s.order ∧ t.book = s.book ∧ t.channels = s.channels ∧ t.heat = s.heat ∧
      t.queue = s.queue ∧ t.staging = s.staging ∧ t.clock = s.clock) ∧
    (x.overcurrent = true → exec (.overcurrentFilteredLevelDeasserted l) s = .next { s with
      pins := pin false
      power := s.power.set l { x with overcurrent := false, overcurrentRun := 0 } })) ∧
  (∀ (l : Lane) (s : State), s.pins.reset = false →
    let x := s.power.get l
    let set (y : PowerLane) : State := { s with power := s.power.set l y }
    (∀ e, x.tripped = true → x.retryDelayEnd = some e →
      s.staging.retryDelay ≤ elapsed s.now (e - BitVec.ofNat 32 s.staging.retryDelay) →
      exec (.retryDelayEnd l) s = .next (settle (set
        { x with tripped := false, retryDelayEnd := none, retryWatch := some 100, watchStarted := false }))) ∧
    (∀ e, x.tripped = true → x.retryDelayEnd = some e →
      elapsed s.now (e - BitVec.ofNat 32 s.staging.retryDelay) < s.staging.retryDelay →
      exec (.retryDelayEnd l) s = .next s) ∧
    (x.tripped = false ∨ x.retryDelayEnd = none → exec (.retryDelayEnd l) s = .next s) ∧
    (x.watchStarted = true → x.retryWatch = some 0 →
      exec (.retryWatchEnd l) s = .next (set { x with retryWatch := none, watchStarted := false })) ∧
    (x.watchStarted = false ∨ x.retryWatch ≠ some 0 → exec (.retryWatchEnd l) s = .next s) ∧
    (5000 ≤ x.driveOnRun → 0 < x.retryCount →
      exec (.driveOnRunComplete l) s = .next (set { x with retryCount := 0 })) ∧
    (x.driveOnRun < 5000 ∨ x.retryCount = 0 → exec (.driveOnRunComplete l) s = .next s)) ∧
  (∀ (p : Port) (lane : Byte) (s : State), Ready s p → s.role p = .control →
    (∀ l : Lane, lane.toNat = l.num →
      ((s.power.get l).tripped = true →
        let u : State := { s with
          power := s.power.set l
            { s.power.get l with
              tripped := false, locked := false, retryCount := 0, driveOnRun := 0, retryDelayEnd := none
              retryWatch := none, watchStarted := false } }
        exec (.laneRestore p lane) s = .next { settle u with
          ports := portsAnswered p 20 ⟨.done, BitVec.ofNat 16 (powerState u l).code⟩ [] none s }) ∧
      ((s.power.get l).tripped = false →
        exec (.laneRestore p lane) s = .next { s with ports := portsRefused p 20 .wrongState s })) ∧
    (lane.toNat = 0 ∨ 8 < lane.toNat →
      exec (.laneRestore p lane) s = .next { s with ports := portsRefused p 20 .noLane s }))

/-- An asserting edge of the supply-low input raises SUPPLY; with SUPPLY masked it calls the track in GREEN, RESUMING and
FINISHING, with origin SUPPLY (R159, R160). A recovery changes the filtered level alone (R159). The model's choices here: an
edge while the level is already low does nothing (log entry 4), and the input pin takes the level that the samples found (log
entry 5). -/
def Obligations.SupplyEdgesCallTheTrack : Prop :=
  ∀ s : State, s.pins.reset = false →
    (s.supply.low = false →
      ∃ t, exec .supplyLowEdge s = .next t ∧ t.supply = ⟨true, 0⟩ ∧ t.exceptions.supply.flag = true ∧
        t.lanes = s.lanes ∧ t.order = s.order ∧ t.book = s.book ∧ t.channels = s.channels ∧ t.queue = s.queue ∧
        t.staging = s.staging ∧ t.clock = s.clock ∧
        (s.exceptions.supply.mask = true → s.phase = .green ∨ s.phase = .resuming ∨ s.phase = .finishing →
          t.heat = { s.heat with
            phase := .hold
            resumeTarget :=
              if s.phase = .green then some .green else if s.phase = .finishing then some .finishing
              else s.heat.resumeTarget
            resumeStart := none
            trackCall := ⟨some .supply, some s.heat.raceClock, some s.now, min 255 (s.heat.trackCall.count + 1)⟩
            red := ⟨true, true, true, true, true⟩
            greenLit := false } ∧
          (∀ q, (t.ports.get q).alerts.has .trackCall = true ∧ (t.ports.get q).alerts.has .phase = true)) ∧
        (s.exceptions.supply.mask = false ∨ (s.phase ≠ .green ∧ s.phase ≠ .resuming ∧ s.phase ≠ .finishing) →
          t.heat = s.heat ∧ t.power = s.power)) ∧
    (s.supply.low = true → exec .supplyLowEdge s = .next s ∧
      exec .supplyLowRecovery s = .next { s with
        pins := { s.pins with supplyLow := false }
        supply := ⟨false, 0⟩ })

/-! ### Exceptions -/

/-- An occurrence raises its kind's flag: the first since it was clear fills the capture record with lane, source, race
clock, station time and detail, a later one raises the repeat count up to 15; EXCEPTION is posted when the occurrence takes
the summary from clear to set; FAULT is asserted exactly while a flag whose mask is clear is set (R163 to R167). SET
EXCEPTION MASK writes all six masks and changes no flag; a newly set SUSPECT mask empties the adjudication queue by default
resolutions, oldest first, as so many deadlines would settle them under the new masks (`SuspectsAreResolved`: a NO_SECTOR
suspect is accepted, a TOO_SOON one rejected), a newly set OVERCURRENT mask starts the retry delay of each TRIPPED lane that
is not LOCKED and has none, a newly cleared one abandons delays and watches; it answers the set of flags (R29, R37, R156,
R168, R169). -/
def Obligations.ExceptionsAreRaisedAndMasked : Prop :=
  (∀ (k : ExcKind) (lane : Option Lane) (src : Option Source) (d : Detail) (s : State),
    let r := s.exceptions.get k
    let t := raise k lane src d s
    { t with ports := s.ports, exceptions := s.exceptions } = s ∧
    (t.exceptions.get k).flag = true ∧ (t.exceptions.get k).mask = r.mask ∧
    (r.flag = false → (t.exceptions.get k).repeatCount = 0 ∧
      (t.exceptions.get k).capture = some ⟨lane, src, s.heat.raceClock, s.now, d⟩) ∧
    (r.flag = true → (t.exceptions.get k).repeatCount = min 15 (r.repeatCount + 1) ∧
      (t.exceptions.get k).capture = r.capture) ∧
    (∀ j, j ≠ k → t.exceptions.get j = s.exceptions.get j) ∧
    (faultOutput s = false → r.mask = false → ∀ q, (t.ports.get q).alerts.has .exception = true) ∧
    (faultOutput s = true ∨ r.mask = true → t.ports = s.ports)) ∧
  (∀ s : State, faultOutput s = true ↔ ∃ k, (s.exceptions.get k).flag = true ∧ (s.exceptions.get k).mask = false) ∧
  (∀ (p : Port) (kinds : Word) (s : State), Ready s p → s.role p = .control →
    (s.exceptions.suspect.mask = true ∨ kinds.getLsbD 0 = false ∨ s.queue = []) →
    ∃ t, exec (.setExceptionMask p kinds) s = .next t ∧
      (t.ports.get p).response = some ⟨.done, 21, s.exceptions.flagWord⟩ ∧
      (∀ (k : ExcKind) (n : Nat), n = (match k with
          | .suspect => 0 | .detector => 1 | .overcurrent => 2 | .supply => 3 | .book => 4 | .saturation => 5) →
        t.exceptions.get k = { s.exceptions.get k with mask := kinds.getLsbD n }) ∧
      t.heat = s.heat ∧ t.lanes = s.lanes ∧ t.order = s.order ∧ t.contexts = s.contexts ∧ t.book = s.book ∧
      t.channels = s.channels ∧ t.queue = s.queue ∧ t.staging = s.staging ∧ t.clock = s.clock ∧
      (∀ l, (t.power.get l).tripped = (s.power.get l).tripped ∧ (t.power.get l).locked = (s.power.get l).locked ∧
        (t.power.get l).retryCount = (s.power.get l).retryCount ∧
        (s.exceptions.overcurrent.mask = false → kinds.getLsbD 2 = true → (s.power.get l).tripped = true →
          (s.power.get l).locked = false → (s.power.get l).retryDelayEnd = none →
          (t.power.get l).retryDelayEnd = some (s.now + BitVec.ofNat 32 s.staging.retryDelay)) ∧
        (s.exceptions.overcurrent.mask = true → kinds.getLsbD 2 = false → (s.power.get l).locked = false →
          (t.power.get l).retryDelayEnd = none ∧ (t.power.get l).retryWatch = none) ∧
        (s.exceptions.overcurrent.mask = kinds.getLsbD 2 ∨ (s.power.get l).locked = true →
          (t.power.get l).retryDelayEnd = (s.power.get l).retryDelayEnd ∧
          (t.power.get l).retryWatch = (s.power.get l).retryWatch))) ∧
  (∀ (p : Port) (kinds : Word) (s : State), Ready s p → s.role p = .control →
    s.exceptions.suspect.mask = false → kinds.getLsbD 0 = true →
    let masks : Exceptions :=
      { suspect := { s.exceptions.suspect with mask := kinds.getLsbD 0 }
        detector := { s.exceptions.detector with mask := kinds.getLsbD 1 }
        overcurrent := { s.exceptions.overcurrent with mask := kinds.getLsbD 2 }
        supply := { s.exceptions.supply with mask := kinds.getLsbD 3 }
        book := { s.exceptions.book with mask := kinds.getLsbD 4 }
        saturation := { s.exceptions.saturation with mask := kinds.getLsbD 5 } }
    ∃ t v, exec (.setExceptionMask p kinds) s = .next t ∧
      execAll (List.replicate s.queue.length .adjudicationDeadline)
        { s with exceptions := masks, staging := { s.staging with adjudicationWindow := 0 } } = .next v ∧
      t.lanes = v.lanes ∧ t.order = v.order ∧ t.contexts = v.contexts ∧ t.book = v.book ∧ t.channels = v.channels ∧
      t.heat = v.heat ∧ t.deslots = v.deslots ∧ t.exceptions = v.exceptions ∧ t.queueSeq = v.queueSeq ∧
      (∀ q, (t.ports.get q).counter = (v.ports.get q).counter ∧
        (t.ports.get q).alerts.has .lap = (v.ports.get q).alerts.has .lap) ∧
      (t.ports.get p).response = some ⟨.done, 21, t.exceptions.flagWord⟩ ∧
      t.queue = [] ∧ t.exceptions.suspect.mask = true ∧
      ((∀ x ∈ s.queue, x.reason = .tooSoon) → t.lanes = s.lanes ∧ t.order = s.order ∧ t.book = s.book ∧ t.heat = s.heat))

/-- CLEAR EXCEPTIONS clears flag, repeat count and capture record of each kind it names and leaves masks, other kinds and the
work of every block as they are; it answers the set of kinds whose flags are still set (R170). -/
def Obligations.ClearExceptionsClears : Prop :=
  ∀ (p : Port) (kinds : Word) (s : State), Ready s p → s.role p = .control →
    let clear (n : Nat) (r : ExcRecord) : ExcRecord := if kinds.getLsbD n then ⟨false, r.mask, 0, none⟩ else r
    let e := s.exceptions
    let u : State := { s with
      exceptions :=
        ⟨clear 0 e.suspect, clear 1 e.detector, clear 2 e.overcurrent, clear 3 e.supply, clear 4 e.book,
          clear 5 e.saturation⟩
      ports := portsAnswered p 22 ⟨.done, e.flagWord &&& ~~~ kinds⟩ [] none s }
    exec (.clearExceptions p kinds) s = .next u ∧
      (faultOutput u = true ↔ ∃ k, (u.exceptions.get k).flag = true ∧ (u.exceptions.get k).mask = false)

/-! ### Times, scores and the running order -/

/-- A reported time is the whole number of resolution units below, above or nearest to the tick value, by rounding mode, a
tie in NEAREST_EVEN going to the even one; 0 is reported as 0, an absent time as absent, and a time in its field as a value
in its field (R90). -/
def Obligations.TimesAreRounded : Prop :=
  ∀ (st : Staging) (t : Nat),
    let d := match st.resolution with | .us10 => 1 | .us100 => 10 | .ms1 => 100 | .ms10 => 1000
    let n := reported st t
    (st.rounding = .down → n * d ≤ t ∧ t < (n + 1) * d) ∧
    (st.rounding = .up → t ≤ n * d ∧ n * d < t + d) ∧
    (st.rounding = .nearestEven →
      2 * (n * d) ≤ 2 * t + d ∧ 2 * t ≤ 2 * (n * d) + d ∧
      (2 * (n * d) = 2 * t + d ∨ 2 * t = 2 * (n * d) + d → n % 2 = 0)) ∧
    (d = 1 → n = t) ∧ reported st 0 = 0 ∧ (t ≤ 4294967295 → n ≤ 4294967295) ∧
    (none : Option Nat).map (reported st) = none

/-- At a key change a lane's reference lap is its best lap, else its last lap if that is at least the lockout, else the
nominal lap; its penalty hundredths are TP in hundredths of the reference lap rounded up; its score is 100 × (L − D) and the
fraction less the penalty hundredths, not below 0; its adjusted time is its finish or last crossing time and TP, saturating,
with SATURATION raised where it would pass the top (R81, R88, R93, R96, R97, R99, R104). -/
def Obligations.ScoresFollowTheLane : Prop :=
  ∀ (l : Lane) (s : State),
    let r := s.lane l
    let t := rescore l s
    let x := t.lane l
    let base := if r.status = .finished then r.finishTime.getD r.lastCrossing else r.lastCrossing
    let f := r.fraction.getD 0
    (∀ b, r.bestLap = some b → x.referenceLap = b) ∧
    (∀ m, r.bestLap = none → r.lastLap = some m → s.staging.lockout * 1000 ≤ m → x.referenceLap = m) ∧
    (r.bestLap = none → (∀ m, r.lastLap = some m → m < s.staging.lockout * 1000) →
      x.referenceLap = s.staging.nominalLap * 100000) ∧
    (r.timePenalty = 0 → x.penaltyHundredths = 0) ∧
    (0 < r.timePenalty → 0 < x.referenceLap →
      r.timePenalty * 100 ≤ x.penaltyHundredths * x.referenceLap ∧
      x.penaltyHundredths * x.referenceLap < r.timePenalty * 100 + x.referenceLap) ∧
    (100 * r.deducted + x.penaltyHundredths ≤ 100 * r.laps + f →
      x.score = 100 * r.laps + f - (100 * r.deducted + x.penaltyHundredths)) ∧
    (100 * r.laps + f < 100 * r.deducted + x.penaltyHundredths → x.score = 0) ∧
    x.adjustedTime = min 4294967295 (base + r.timePenalty) ∧
    (4294967295 < base + r.timePenalty → t.exceptions.saturation.flag = true) ∧
    (base + r.timePenalty ≤ 4294967295 → t.exceptions = s.exceptions ∧ t.ports = s.ports) ∧
    x.laps = r.laps ∧ x.deducted = r.deducted ∧ x.timePenalty = r.timePenalty ∧ x.status = r.status ∧
    x.lastCrossing = r.lastCrossing ∧ x.history = r.history ∧ x.position = r.position ∧
    (∀ m, m ≠ l → t.lane m = s.lane m) ∧ t.order = s.order ∧ t.heat = s.heat ∧ t.book = s.book ∧ t.channels = s.channels

/-- A reorder sorts the lanes in play stably by their keys, S and then the key's last crossing in a timed heat, N and then
adjusted time in LAP_TARGET, puts the stood-down lanes after them in ascending number, sets positions and dead-heat marks,
and posts ORDER when one of them changes (R82 to R84, R98 to R100). The last crossing of the timed key is the one as of the
lane's last key change (`keyCrossing`; log entry 19, DEDUCED from R22). -/
def Obligations.ReorderRanksTheLanes : Prop :=
  ∀ s : State, s.order.Nodup → (∀ l ∈ s.order, (s.lane l).status ≠ .out) →
    let t := reorder s
    let down (l : Lane) : Prop := (s.lane l).status = .stoodDown
    let ahead (a b : LaneRecord) : Prop :=
      if s.staging.heatMode = .lapTarget then
        (b.laps : Int) - b.deducted < (a.laps : Int) - a.deducted ∨
          (a.laps : Int) - a.deducted = (b.laps : Int) - b.deducted ∧ a.adjustedTime < b.adjustedTime
      else b.score < a.score ∨ a.score = b.score ∧ a.keyCrossing < b.keyCrossing
    let level (a b : LaneRecord) : Prop :=
      if s.staging.heatMode = .lapTarget then
        (a.laps : Int) - a.deducted = (b.laps : Int) - b.deducted ∧
          reported s.staging a.adjustedTime = reported s.staging b.adjustedTime
      else a.score = b.score
    t.order.Perm s.order ∧
    t.order.Pairwise (fun a b =>
      (down a → down b) ∧ (¬ down a → ¬ down b → ¬ ahead (s.lane b) (s.lane a)) ∧ (down a → down b → a.num < b.num) ∧
      (¬ down a → ¬ down b → ¬ ahead (s.lane a) (s.lane b) → s.order.idxOf a < s.order.idxOf b)) ∧
    (∀ l, (t.lane l).position = if l ∈ s.order then t.order.idxOf l + 1 else 0) ∧
    (∀ l, (t.lane l).deadHeat = true ↔ ∃ i a b, t.order[i]? = some a ∧ t.order[i + 1]? = some b ∧ (l = a ∨ l = b) ∧
      ¬ down a ∧ ¬ down b ∧ 1 ≤ (s.lane a).laps ∧ 1 ≤ (s.lane b).laps ∧ level (s.lane a) (s.lane b)) ∧
    (∀ l, t.lane l = { s.lane l with position := (t.lane l).position, deadHeat := (t.lane l).deadHeat }) ∧
    ((∃ l, (t.lane l).position ≠ (s.lane l).position ∨ (t.lane l).deadHeat ≠ (s.lane l).deadHeat) →
      ∀ q, (t.ports.get q).alerts.has .order = true) ∧
    ((∀ l, (t.lane l).position = (s.lane l).position ∧ (t.lane l).deadHeat = (s.lane l).deadHeat) → t.ports = s.ports) ∧
    { t with order := s.order, lanes := s.lanes, ports := s.ports } = s

/-! ### Invariants and the whole machine -/

/-- Every step keeps the outputs in agreement with the power state: drive on only in FULL and CAPPED, brake on only in HELD
and CUT, never both at once; every lane lamp shows its condition (R143 to R148). -/
def Obligations.OutputsFollowPowerState : Prop :=
  ∀ s t : State, OutputsFollow s → step s = .next t → OutputsFollow t

/-- Every step keeps the running order a list of each enabled lane once, with the positions it gives (R80, R82). -/
def Obligations.OrderHoldsEnabledLanes : Prop :=
  ∀ s t : State, OrderAgrees s → step s = .next t → OrderAgrees t

/-- Every step keeps the sequence numbers of the book and of the adjudication queue different and in their range (R30, R31,
R105, R106), and the laps of every history in strictly ascending number (R73 to R76). -/
def Obligations.NumbersStayInOrder : Prop :=
  ∀ s t : State, step s = .next t → (NumbersDiffer s → NumbersDiffer t) ∧ (HistoriesAscend s → HistoriesAscend t)

/-- Every step keeps book and channels in agreement: a waiting number names an ACTIVE entry of the channel's lane and kind,
in activation order, a serving number a SERVING one; every such entry stands in its channel; the closing order lists the
SERVED and WAIVED slots (R105, R107, R108, R130). The premise on numbers is an invariant too (`NumbersStayInOrder`). -/
def Obligations.ChannelsHoldOpenEntries : Prop :=
  ∀ s t : State, NumbersDiffer s → ChannelsAgree s → step s = .next t → ChannelsAgree t

/-- Every step keeps the heat fields in agreement with the phase (R43, R45 to R63). -/
def Obligations.HeatFieldsAgreeWithPhase : Prop :=
  ∀ s t : State, HeatFieldsAgree s → step s = .next t → HeatFieldsAgree t

/-- Resets aside, a command changes the phase only along the transitions of section 3.3, and a step of time not at all. -/
def Obligations.PhaseFollowsTheTable : Prop :=
  (∀ (c : Instr) (s t : State), (∀ x, c ≠ .powerOn x) → c ≠ .resetPin → s.pendingReset = none → exec c s = .next t →
    t.phase = s.phase ∨ t.phase ∈ phaseAfter s.phase) ∧
  (∀ s t : State, s.pending = [] → step s = .next t → t.phase = s.phase)

/-- The state after power-on meets every invariant that the other statements say each step keeps. -/
def Obligations.ResetMeetsTheInvariants : Prop :=
  OutputsFollow State.reset ∧ OrderAgrees State.reset ∧ NumbersDiffer State.reset ∧ HistoriesAscend State.reset ∧
    HeatFieldsAgree State.reset ∧ ChannelsAgree State.reset
end

