-- ==== Sys2Proof/Laws/State.lean ====
section
/-! SUPPORT. The small lemmas of lanes, ports and of every update of the state: what each update reads back and what it leaves. -/

namespace Sys2Proof

/-! ### Lanes and ports -/

@[simp] theorem Lanes.get_set_self {α : Type} (x : Lanes α) (l : Lane) (a : α) : (x.set l a).get l = a := by
  cases l <;> rfl

@[simp] theorem Lanes.get_set_ne {α : Type} (x : Lanes α) {l m : Lane} (a : α) (h : m ≠ l) :
    (x.set l a).get m = x.get m := by
  cases l <;> cases m <;> first | rfl | exact absurd rfl h

theorem Lanes.get_set {α : Type} (x : Lanes α) (l m : Lane) (a : α) :
    (x.set l a).get m = if m = l then a else x.get m := by
  by_cases h : m = l
  · subst h; simp
  · simp [h]

@[simp] theorem Lanes.get_mapLane {α β : Type} (f : Lane → α → β) (x : Lanes α) (l : Lane) :
    (x.mapLane f).get l = f l (x.get l) := by
  cases l <;> rfl

@[simp] theorem Lanes.get_all {α : Type} (a : α) (l : Lane) : (Lanes.all a).get l = a := by
  cases l <;> rfl

@[simp] theorem Lanes.set_get_self {α : Type} (x : Lanes α) (l : Lane) : x.set l (x.get l) = x := by
  cases l <;> rfl

theorem Lanes.ext_get {α : Type} {x y : Lanes α} (h : ∀ l, x.get l = y.get l) : x = y := by
  cases x; cases y
  have h1 := h .l1; have h2 := h .l2; have h3 := h .l3; have h4 := h .l4
  have h5 := h .l5; have h6 := h .l6; have h7 := h .l7; have h8 := h .l8
  simp only [Lanes.get] at h1 h2 h3 h4 h5 h6 h7 h8
  subst h1 h2 h3 h4 h5 h6 h7 h8
  rfl

theorem Lanes.any_iff {α : Type} (f : α → Bool) (x : Lanes α) : x.any f = true ↔ ∃ l, f (x.get l) = true := by
  constructor
  · intro h
    simp only [Lanes.any, Bool.or_eq_true] at h
    match h with
    | .inl (.inl (.inl (.inl (.inl (.inl (.inl h)))))) => exact ⟨.l1, h⟩
    | .inl (.inl (.inl (.inl (.inl (.inl (.inr h)))))) => exact ⟨.l2, h⟩
    | .inl (.inl (.inl (.inl (.inl (.inr h))))) => exact ⟨.l3, h⟩
    | .inl (.inl (.inl (.inl (.inr h)))) => exact ⟨.l4, h⟩
    | .inl (.inl (.inl (.inr h))) => exact ⟨.l5, h⟩
    | .inl (.inl (.inr h)) => exact ⟨.l6, h⟩
    | .inl (.inr h) => exact ⟨.l7, h⟩
    | .inr h => exact ⟨.l8, h⟩
  · intro ⟨l, h⟩
    cases l <;> simp only [Lanes.get] at h <;> simp [Lanes.any, h]

theorem Lane.mem_all (l : Lane) : l ∈ Lane.all := by cases l <;> decide

theorem Lane.all_nodup : Lane.all.Nodup := by decide

@[simp] theorem Ports.get_set_self {α : Type} (x : Ports α) (p : Port) (a : α) : (x.set p a).get p = a := by
  cases p <;> rfl

@[simp] theorem Ports.get_set_ne {α : Type} (x : Ports α) {p q : Port} (a : α) (h : q ≠ p) :
    (x.set p a).get q = x.get q := by
  cases p <;> cases q <;> first | rfl | exact absurd rfl h

theorem Ports.get_set {α : Type} (x : Ports α) (p q : Port) (a : α) :
    (x.set p a).get q = if q = p then a else x.get q := by
  by_cases h : q = p
  · subst h; simp
  · simp [h]

@[simp] theorem Ports.get_mapPort {α β : Type} (f : Port → α → β) (x : Ports α) (p : Port) :
    (x.mapPort f).get p = f p (x.get p) := by
  cases p <;> rfl

@[simp] theorem Ports.set_set {α : Type} (x : Ports α) (p : Port) (a b : α) : (x.set p a).set p b = x.set p b := by
  cases p <;> rfl

theorem Ports.ext_get {α : Type} {x y : Ports α} (h : ∀ p, x.get p = y.get p) : x = y := by
  cases x; cases y
  have h0 := h .p0; have h1 := h .p1; have h2 := h .p2; have h3 := h .p3
  simp only [Ports.get] at h0 h1 h2 h3
  subst h0 h1 h2 h3
  rfl

end Sys2Proof

namespace Sys2Proof.Machine

/-! ### Reading back an update -/

@[simp] theorem State.lane_modLane_self (s : State) (l : Lane) (f : LaneRecord → LaneRecord) :
    (s.modLane l f).lane l = f (s.lane l) := Lanes.get_set_self ..

@[simp] theorem State.lane_modLane_ne (s : State) {l m : Lane} (f : LaneRecord → LaneRecord) (h : m ≠ l) :
    (s.modLane l f).lane m = s.lane m := Lanes.get_set_ne _ _ h

@[simp] theorem State.heat_modHeat (s : State) (f : Heat → Heat) : (s.modHeat f).heat = f s.heat := rfl

@[simp] theorem State.contexts_modContext (s : State) (l : Lane) (f : Context → Context) :
    (s.modContext l f).contexts = s.contexts.set l (f (s.contexts.get l)) := rfl

@[simp] theorem State.channels_modChannels (s : State) (l : Lane) (f : Channels → Channels) :
    (s.modChannels l f).channels = s.channels.set l (f (s.channels.get l)) := rfl

@[simp] theorem State.power_modPower (s : State) (l : Lane) (f : PowerLane → PowerLane) :
    (s.modPower l f).power = s.power.set l (f (s.power.get l)) := rfl

@[simp] theorem State.deslots_modDeslot (s : State) (l : Lane) (f : DeslotRecord → DeslotRecord) :
    (s.modDeslot l f).deslots = s.deslots.set l (f (s.deslots.get l)) := rfl

@[simp] theorem State.ports_modPort (s : State) (p : Port) (f : PortState → PortState) :
    (s.modPort p f).ports = s.ports.set p (f (s.ports.get p)) := rfl

@[simp] theorem State.slots_modEntry (s : State) (k : Nat) (f : Entry → Entry) :
    (s.modEntry k f).book.slots = s.book.slots.set k (f (s.entry k)) := rfl

@[simp] theorem State.detector_modDetector_self (s : State) (l : Lane) (k : DetKind) (f : Detector → Detector) :
    (s.modDetector l k f).detector l k = f (s.detector l k) := by
  cases k <;> exact Lanes.get_set_self ..

theorem State.detector_modDetector_ne (s : State) {l m : Lane} {k j : DetKind} (f : Detector → Detector)
    (h : (m, j) ≠ (l, k)) : (s.modDetector l k f).detector m j = s.detector m j := by
  cases k <;> cases j <;> simp [State.modDetector, State.detector] at h ⊢ <;> simp [Lanes.get_set_ne, h]

/-! ### What each update leaves -/

@[simp] theorem State.modHeat_pending (s : State) (f : Heat → Heat) : (s.modHeat f).pending = s.pending := rfl
@[simp] theorem State.modHeat_pins (s : State) (f : Heat → Heat) : (s.modHeat f).pins = s.pins := rfl
@[simp] theorem State.modHeat_straps (s : State) (f : Heat → Heat) : (s.modHeat f).straps = s.straps := rfl
@[simp] theorem State.modHeat_clock (s : State) (f : Heat → Heat) : (s.modHeat f).clock = s.clock := rfl
@[simp] theorem State.modHeat_staging (s : State) (f : Heat → Heat) : (s.modHeat f).staging = s.staging := rfl
@[simp] theorem State.modHeat_detectors (s : State) (f : Heat → Heat) : (s.modHeat f).detectors = s.detectors := rfl
@[simp] theorem State.modHeat_contexts (s : State) (f : Heat → Heat) : (s.modHeat f).contexts = s.contexts := rfl
@[simp] theorem State.modHeat_queue (s : State) (f : Heat → Heat) : (s.modHeat f).queue = s.queue := rfl
@[simp] theorem State.modHeat_queueSeq (s : State) (f : Heat → Heat) : (s.modHeat f).queueSeq = s.queueSeq := rfl
@[simp] theorem State.modHeat_lanes (s : State) (f : Heat → Heat) : (s.modHeat f).lanes = s.lanes := rfl
@[simp] theorem State.modHeat_order (s : State) (f : Heat → Heat) : (s.modHeat f).order = s.order := rfl
@[simp] theorem State.modHeat_book (s : State) (f : Heat → Heat) : (s.modHeat f).book = s.book := rfl
@[simp] theorem State.modHeat_deslots (s : State) (f : Heat → Heat) : (s.modHeat f).deslots = s.deslots := rfl
@[simp] theorem State.modHeat_channels (s : State) (f : Heat → Heat) : (s.modHeat f).channels = s.channels := rfl
@[simp] theorem State.modHeat_lamps (s : State) (f : Heat → Heat) : (s.modHeat f).lamps = s.lamps := rfl
@[simp] theorem State.modHeat_power (s : State) (f : Heat → Heat) : (s.modHeat f).power = s.power := rfl
@[simp] theorem State.modHeat_supply (s : State) (f : Heat → Heat) : (s.modHeat f).supply = s.supply := rfl
@[simp] theorem State.modHeat_exceptions (s : State) (f : Heat → Heat) : (s.modHeat f).exceptions = s.exceptions := rfl
@[simp] theorem State.modHeat_ports (s : State) (f : Heat → Heat) : (s.modHeat f).ports = s.ports := rfl
@[simp] theorem State.modHeat_pendingReset (s : State) (f : Heat → Heat) : (s.modHeat f).pendingReset = s.pendingReset := rfl

@[simp] theorem State.modLane_pending (s : State) (l : Lane) (f : LaneRecord → LaneRecord) : (s.modLane l f).pending = s.pending := rfl
@[simp] theorem State.modLane_pins (s : State) (l : Lane) (f : LaneRecord → LaneRecord) : (s.modLane l f).pins = s.pins := rfl
@[simp] theorem State.modLane_straps (s : State) (l : Lane) (f : LaneRecord → LaneRecord) : (s.modLane l f).straps = s.straps := rfl
@[simp] theorem State.modLane_clock (s : State) (l : Lane) (f : LaneRecord → LaneRecord) : (s.modLane l f).clock = s.clock := rfl
@[simp] theorem State.modLane_staging (s : State) (l : Lane) (f : LaneRecord → LaneRecord) : (s.modLane l f).staging = s.staging := rfl
@[simp] theorem State.modLane_heat (s : State) (l : Lane) (f : LaneRecord → LaneRecord) : (s.modLane l f).heat = s.heat := rfl
@[simp] theorem State.modLane_detectors (s : State) (l : Lane) (f : LaneRecord → LaneRecord) : (s.modLane l f).detectors = s.detectors := rfl
@[simp] theorem State.modLane_contexts (s : State) (l : Lane) (f : LaneRecord → LaneRecord) : (s.modLane l f).contexts = s.contexts := rfl
@[simp] theorem State.modLane_queue (s : State) (l : Lane) (f : LaneRecord → LaneRecord) : (s.modLane l f).queue = s.queue := rfl
@[simp] theorem State.modLane_queueSeq (s : State) (l : Lane) (f : LaneRecord → LaneRecord) : (s.modLane l f).queueSeq = s.queueSeq := rfl
@[simp] theorem State.modLane_order (s : State) (l : Lane) (f : LaneRecord → LaneRecord) : (s.modLane l f).order = s.order := rfl
@[simp] theorem State.modLane_book (s : State) (l : Lane) (f : LaneRecord → LaneRecord) : (s.modLane l f).book = s.book := rfl
@[simp] theorem State.modLane_deslots (s : State) (l : Lane) (f : LaneRecord → LaneRecord) : (s.modLane l f).deslots = s.deslots := rfl
@[simp] theorem State.modLane_channels (s : State) (l : Lane) (f : LaneRecord → LaneRecord) : (s.modLane l f).channels = s.channels := rfl
@[simp] theorem State.modLane_lamps (s : State) (l : Lane) (f : LaneRecord → LaneRecord) : (s.modLane l f).lamps = s.lamps := rfl
@[simp] theorem State.modLane_power (s : State) (l : Lane) (f : LaneRecord → LaneRecord) : (s.modLane l f).power = s.power := rfl
@[simp] theorem State.modLane_supply (s : State) (l : Lane) (f : LaneRecord → LaneRecord) : (s.modLane l f).supply = s.supply := rfl
@[simp] theorem State.modLane_exceptions (s : State) (l : Lane) (f : LaneRecord → LaneRecord) : (s.modLane l f).exceptions = s.exceptions := rfl
@[simp] theorem State.modLane_ports (s : State) (l : Lane) (f : LaneRecord → LaneRecord) : (s.modLane l f).ports = s.ports := rfl
@[simp] theorem State.modLane_pendingReset (s : State) (l : Lane) (f : LaneRecord → LaneRecord) : (s.modLane l f).pendingReset = s.pendingReset := rfl

@[simp] theorem State.modContext_pending (s : State) (l : Lane) (f : Context → Context) : (s.modContext l f).pending = s.pending := rfl
@[simp] theorem State.modContext_pins (s : State) (l : Lane) (f : Context → Context) : (s.modContext l f).pins = s.pins := rfl
@[simp] theorem State.modContext_straps (s : State) (l : Lane) (f : Context → Context) : (s.modContext l f).straps = s.straps := rfl
@[simp] theorem State.modContext_clock (s : State) (l : Lane) (f : Context → Context) : (s.modContext l f).clock = s.clock := rfl
@[simp] theorem State.modContext_staging (s : State) (l : Lane) (f : Context → Context) : (s.modContext l f).staging = s.staging := rfl
@[simp] theorem State.modContext_heat (s : State) (l : Lane) (f : Context → Context) : (s.modContext l f).heat = s.heat := rfl
@[simp] theorem State.modContext_detectors (s : State) (l : Lane) (f : Context → Context) : (s.modContext l f).detectors = s.detectors := rfl
@[simp] theorem State.modContext_queue (s : State) (l : Lane) (f : Context → Context) : (s.modContext l f).queue = s.queue := rfl
@[simp] theorem State.modContext_queueSeq (s : State) (l : Lane) (f : Context → Context) : (s.modContext l f).queueSeq = s.queueSeq := rfl
@[simp] theorem State.modContext_lanes (s : State) (l : Lane) (f : Context → Context) : (s.modContext l f).lanes = s.lanes := rfl
@[simp] theorem State.modContext_order (s : State) (l : Lane) (f : Context → Context) : (s.modContext l f).order = s.order := rfl
@[simp] theorem State.modContext_book (s : State) (l : Lane) (f : Context → Context) : (s.modContext l f).book = s.book := rfl
@[simp] theorem State.modContext_deslots (s : State) (l : Lane) (f : Context → Context) : (s.modContext l f).deslots = s.deslots := rfl
@[simp] theorem State.modContext_channels (s : State) (l : Lane) (f : Context → Context) : (s.modContext l f).channels = s.channels := rfl
@[simp] theorem State.modContext_lamps (s : State) (l : Lane) (f : Context → Context) : (s.modContext l f).lamps = s.lamps := rfl
@[simp] theorem State.modContext_power (s : State) (l : Lane) (f : Context → Context) : (s.modContext l f).power = s.power := rfl
@[simp] theorem State.modContext_supply (s : State) (l : Lane) (f : Context → Context) : (s.modContext l f).supply = s.supply := rfl
@[simp] theorem State.modContext_exceptions (s : State) (l : Lane) (f : Context → Context) : (s.modContext l f).exceptions = s.exceptions := rfl
@[simp] theorem State.modContext_ports (s : State) (l : Lane) (f : Context → Context) : (s.modContext l f).ports = s.ports := rfl
@[simp] theorem State.modContext_pendingReset (s : State) (l : Lane) (f : Context → Context) : (s.modContext l f).pendingReset = s.pendingReset := rfl

@[simp] theorem State.modChannels_pending (s : State) (l : Lane) (f : Channels → Channels) : (s.modChannels l f).pending = s.pending := rfl
@[simp] theorem State.modChannels_pins (s : State) (l : Lane) (f : Channels → Channels) : (s.modChannels l f).pins = s.pins := rfl
@[simp] theorem State.modChannels_straps (s : State) (l : Lane) (f : Channels → Channels) : (s.modChannels l f).straps = s.straps := rfl
@[simp] theorem State.modChannels_clock (s : State) (l : Lane) (f : Channels → Channels) : (s.modChannels l f).clock = s.clock := rfl
@[simp] theorem State.modChannels_staging (s : State) (l : Lane) (f : Channels → Channels) : (s.modChannels l f).staging = s.staging := rfl
@[simp] theorem State.modChannels_heat (s : State) (l : Lane) (f : Channels → Channels) : (s.modChannels l f).heat = s.heat := rfl
@[simp] theorem State.modChannels_detectors (s : State) (l : Lane) (f : Channels → Channels) : (s.modChannels l f).detectors = s.detectors := rfl
@[simp] theorem State.modChannels_contexts (s : State) (l : Lane) (f : Channels → Channels) : (s.modChannels l f).contexts = s.contexts := rfl
@[simp] theorem State.modChannels_queue (s : State) (l : Lane) (f : Channels → Channels) : (s.modChannels l f).queue = s.queue := rfl
@[simp] theorem State.modChannels_queueSeq (s : State) (l : Lane) (f : Channels → Channels) : (s.modChannels l f).queueSeq = s.queueSeq := rfl
@[simp] theorem State.modChannels_lanes (s : State) (l : Lane) (f : Channels → Channels) : (s.modChannels l f).lanes = s.lanes := rfl
@[simp] theorem State.modChannels_order (s : State) (l : Lane) (f : Channels → Channels) : (s.modChannels l f).order = s.order := rfl
@[simp] theorem State.modChannels_book (s : State) (l : Lane) (f : Channels → Channels) : (s.modChannels l f).book = s.book := rfl
@[simp] theorem State.modChannels_deslots (s : State) (l : Lane) (f : Channels → Channels) : (s.modChannels l f).deslots = s.deslots := rfl
@[simp] theorem State.modChannels_lamps (s : State) (l : Lane) (f : Channels → Channels) : (s.modChannels l f).lamps = s.lamps := rfl
@[simp] theorem State.modChannels_power (s : State) (l : Lane) (f : Channels → Channels) : (s.modChannels l f).power = s.power := rfl
@[simp] theorem State.modChannels_supply (s : State) (l : Lane) (f : Channels → Channels) : (s.modChannels l f).supply = s.supply := rfl
@[simp] theorem State.modChannels_exceptions (s : State) (l : Lane) (f : Channels → Channels) : (s.modChannels l f).exceptions = s.exceptions := rfl
@[simp] theorem State.modChannels_ports (s : State) (l : Lane) (f : Channels → Channels) : (s.modChannels l f).ports = s.ports := rfl
@[simp] theorem State.modChannels_pendingReset (s : State) (l : Lane) (f : Channels → Channels) : (s.modChannels l f).pendingReset = s.pendingReset := rfl

@[simp] theorem State.modPower_pending (s : State) (l : Lane) (f : PowerLane → PowerLane) : (s.modPower l f).pending = s.pending := rfl
@[simp] theorem State.modPower_pins (s : State) (l : Lane) (f : PowerLane → PowerLane) : (s.modPower l f).pins = s.pins := rfl
@[simp] theorem State.modPower_straps (s : State) (l : Lane) (f : PowerLane → PowerLane) : (s.modPower l f).straps = s.straps := rfl
@[simp] theorem State.modPower_clock (s : State) (l : Lane) (f : PowerLane → PowerLane) : (s.modPower l f).clock = s.clock := rfl
@[simp] theorem State.modPower_staging (s : State) (l : Lane) (f : PowerLane → PowerLane) : (s.modPower l f).staging = s.staging := rfl
@[simp] theorem State.modPower_heat (s : State) (l : Lane) (f : PowerLane → PowerLane) : (s.modPower l f).heat = s.heat := rfl
@[simp] theorem State.modPower_detectors (s : State) (l : Lane) (f : PowerLane → PowerLane) : (s.modPower l f).detectors = s.detectors := rfl
@[simp] theorem State.modPower_contexts (s : State) (l : Lane) (f : PowerLane → PowerLane) : (s.modPower l f).contexts = s.contexts := rfl
@[simp] theorem State.modPower_queue (s : State) (l : Lane) (f : PowerLane → PowerLane) : (s.modPower l f).queue = s.queue := rfl
@[simp] theorem State.modPower_queueSeq (s : State) (l : Lane) (f : PowerLane → PowerLane) : (s.modPower l f).queueSeq = s.queueSeq := rfl
@[simp] theorem State.modPower_lanes (s : State) (l : Lane) (f : PowerLane → PowerLane) : (s.modPower l f).lanes = s.lanes := rfl
@[simp] theorem State.modPower_order (s : State) (l : Lane) (f : PowerLane → PowerLane) : (s.modPower l f).order = s.order := rfl
@[simp] theorem State.modPower_book (s : State) (l : Lane) (f : PowerLane → PowerLane) : (s.modPower l f).book = s.book := rfl
@[simp] theorem State.modPower_deslots (s : State) (l : Lane) (f : PowerLane → PowerLane) : (s.modPower l f).deslots = s.deslots := rfl
@[simp] theorem State.modPower_channels (s : State) (l : Lane) (f : PowerLane → PowerLane) : (s.modPower l f).channels = s.channels := rfl
@[simp] theorem State.modPower_lamps (s : State) (l : Lane) (f : PowerLane → PowerLane) : (s.modPower l f).lamps = s.lamps := rfl
@[simp] theorem State.modPower_supply (s : State) (l : Lane) (f : PowerLane → PowerLane) : (s.modPower l f).supply = s.supply := rfl
@[simp] theorem State.modPower_exceptions (s : State) (l : Lane) (f : PowerLane → PowerLane) : (s.modPower l f).exceptions = s.exceptions := rfl
@[simp] theorem State.modPower_ports (s : State) (l : Lane) (f : PowerLane → PowerLane) : (s.modPower l f).ports = s.ports := rfl
@[simp] theorem State.modPower_pendingReset (s : State) (l : Lane) (f : PowerLane → PowerLane) : (s.modPower l f).pendingReset = s.pendingReset := rfl

@[simp] theorem State.modDeslot_pending (s : State) (l : Lane) (f : DeslotRecord → DeslotRecord) : (s.modDeslot l f).pending = s.pending := rfl
@[simp] theorem State.modDeslot_pins (s : State) (l : Lane) (f : DeslotRecord → DeslotRecord) : (s.modDeslot l f).pins = s.pins := rfl
@[simp] theorem State.modDeslot_straps (s : State) (l : Lane) (f : DeslotRecord → DeslotRecord) : (s.modDeslot l f).straps = s.straps := rfl
@[simp] theorem State.modDeslot_clock (s : State) (l : Lane) (f : DeslotRecord → DeslotRecord) : (s.modDeslot l f).clock = s.clock := rfl
@[simp] theorem State.modDeslot_staging (s : State) (l : Lane) (f : DeslotRecord → DeslotRecord) : (s.modDeslot l f).staging = s.staging := rfl
@[simp] theorem State.modDeslot_heat (s : State) (l : Lane) (f : DeslotRecord → DeslotRecord) : (s.modDeslot l f).heat = s.heat := rfl
@[simp] theorem State.modDeslot_detectors (s : State) (l : Lane) (f : DeslotRecord → DeslotRecord) : (s.modDeslot l f).detectors = s.detectors := rfl
@[simp] theorem State.modDeslot_contexts (s : State) (l : Lane) (f : DeslotRecord → DeslotRecord) : (s.modDeslot l f).contexts = s.contexts := rfl
@[simp] theorem State.modDeslot_queue (s : State) (l : Lane) (f : DeslotRecord → DeslotRecord) : (s.modDeslot l f).queue = s.queue := rfl
@[simp] theorem State.modDeslot_queueSeq (s : State) (l : Lane) (f : DeslotRecord → DeslotRecord) : (s.modDeslot l f).queueSeq = s.queueSeq := rfl
@[simp] theorem State.modDeslot_lanes (s : State) (l : Lane) (f : DeslotRecord → DeslotRecord) : (s.modDeslot l f).lanes = s.lanes := rfl
@[simp] theorem State.modDeslot_order (s : State) (l : Lane) (f : DeslotRecord → DeslotRecord) : (s.modDeslot l f).order = s.order := rfl
@[simp] theorem State.modDeslot_book (s : State) (l : Lane) (f : DeslotRecord → DeslotRecord) : (s.modDeslot l f).book = s.book := rfl
@[simp] theorem State.modDeslot_channels (s : State) (l : Lane) (f : DeslotRecord → DeslotRecord) : (s.modDeslot l f).channels = s.channels := rfl
@[simp] theorem State.modDeslot_lamps (s : State) (l : Lane) (f : DeslotRecord → DeslotRecord) : (s.modDeslot l f).lamps = s.lamps := rfl
@[simp] theorem State.modDeslot_power (s : State) (l : Lane) (f : DeslotRecord → DeslotRecord) : (s.modDeslot l f).power = s.power := rfl
@[simp] theorem State.modDeslot_supply (s : State) (l : Lane) (f : DeslotRecord → DeslotRecord) : (s.modDeslot l f).supply = s.supply := rfl
@[simp] theorem State.modDeslot_exceptions (s : State) (l : Lane) (f : DeslotRecord → DeslotRecord) : (s.modDeslot l f).exceptions = s.exceptions := rfl
@[simp] theorem State.modDeslot_ports (s : State) (l : Lane) (f : DeslotRecord → DeslotRecord) : (s.modDeslot l f).ports = s.ports := rfl
@[simp] theorem State.modDeslot_pendingReset (s : State) (l : Lane) (f : DeslotRecord → DeslotRecord) : (s.modDeslot l f).pendingReset = s.pendingReset := rfl

@[simp] theorem State.modPort_pending (s : State) (p : Port) (f : PortState → PortState) : (s.modPort p f).pending = s.pending := rfl
@[simp] theorem State.modPort_pins (s : State) (p : Port) (f : PortState → PortState) : (s.modPort p f).pins = s.pins := rfl
@[simp] theorem State.modPort_straps (s : State) (p : Port) (f : PortState → PortState) : (s.modPort p f).straps = s.straps := rfl
@[simp] theorem State.modPort_clock (s : State) (p : Port) (f : PortState → PortState) : (s.modPort p f).clock = s.clock := rfl
@[simp] theorem State.modPort_staging (s : State) (p : Port) (f : PortState → PortState) : (s.modPort p f).staging = s.staging := rfl
@[simp] theorem State.modPort_heat (s : State) (p : Port) (f : PortState → PortState) : (s.modPort p f).heat = s.heat := rfl
@[simp] theorem State.modPort_detectors (s : State) (p : Port) (f : PortState → PortState) : (s.modPort p f).detectors = s.detectors := rfl
@[simp] theorem State.modPort_contexts (s : State) (p : Port) (f : PortState → PortState) : (s.modPort p f).contexts = s.contexts := rfl
@[simp] theorem State.modPort_queue (s : State) (p : Port) (f : PortState → PortState) : (s.modPort p f).queue = s.queue := rfl
@[simp] theorem State.modPort_queueSeq (s : State) (p : Port) (f : PortState → PortState) : (s.modPort p f).queueSeq = s.queueSeq := rfl
@[simp] theorem State.modPort_lanes (s : State) (p : Port) (f : PortState → PortState) : (s.modPort p f).lanes = s.lanes := rfl
@[simp] theorem State.modPort_order (s : State) (p : Port) (f : PortState → PortState) : (s.modPort p f).order = s.order := rfl
@[simp] theorem State.modPort_book (s : State) (p : Port) (f : PortState → PortState) : (s.modPort p f).book = s.book := rfl
@[simp] theorem State.modPort_deslots (s : State) (p : Port) (f : PortState → PortState) : (s.modPort p f).deslots = s.deslots := rfl
@[simp] theorem State.modPort_channels (s : State) (p : Port) (f : PortState → PortState) : (s.modPort p f).channels = s.channels := rfl
@[simp] theorem State.modPort_lamps (s : State) (p : Port) (f : PortState → PortState) : (s.modPort p f).lamps = s.lamps := rfl
@[simp] theorem State.modPort_power (s : State) (p : Port) (f : PortState → PortState) : (s.modPort p f).power = s.power := rfl
@[simp] theorem State.modPort_supply (s : State) (p : Port) (f : PortState → PortState) : (s.modPort p f).supply = s.supply := rfl
@[simp] theorem State.modPort_exceptions (s : State) (p : Port) (f : PortState → PortState) : (s.modPort p f).exceptions = s.exceptions := rfl
@[simp] theorem State.modPort_pendingReset (s : State) (p : Port) (f : PortState → PortState) : (s.modPort p f).pendingReset = s.pendingReset := rfl

@[simp] theorem State.modEntry_pending (s : State) (k : Nat) (f : Entry → Entry) : (s.modEntry k f).pending = s.pending := rfl
@[simp] theorem State.modEntry_pins (s : State) (k : Nat) (f : Entry → Entry) : (s.modEntry k f).pins = s.pins := rfl
@[simp] theorem State.modEntry_straps (s : State) (k : Nat) (f : Entry → Entry) : (s.modEntry k f).straps = s.straps := rfl
@[simp] theorem State.modEntry_clock (s : State) (k : Nat) (f : Entry → Entry) : (s.modEntry k f).clock = s.clock := rfl
@[simp] theorem State.modEntry_staging (s : State) (k : Nat) (f : Entry → Entry) : (s.modEntry k f).staging = s.staging := rfl
@[simp] theorem State.modEntry_heat (s : State) (k : Nat) (f : Entry → Entry) : (s.modEntry k f).heat = s.heat := rfl
@[simp] theorem State.modEntry_detectors (s : State) (k : Nat) (f : Entry → Entry) : (s.modEntry k f).detectors = s.detectors := rfl
@[simp] theorem State.modEntry_contexts (s : State) (k : Nat) (f : Entry → Entry) : (s.modEntry k f).contexts = s.contexts := rfl
@[simp] theorem State.modEntry_queue (s : State) (k : Nat) (f : Entry → Entry) : (s.modEntry k f).queue = s.queue := rfl
@[simp] theorem State.modEntry_queueSeq (s : State) (k : Nat) (f : Entry → Entry) : (s.modEntry k f).queueSeq = s.queueSeq := rfl
@[simp] theorem State.modEntry_lanes (s : State) (k : Nat) (f : Entry → Entry) : (s.modEntry k f).lanes = s.lanes := rfl
@[simp] theorem State.modEntry_order (s : State) (k : Nat) (f : Entry → Entry) : (s.modEntry k f).order = s.order := rfl
@[simp] theorem State.modEntry_deslots (s : State) (k : Nat) (f : Entry → Entry) : (s.modEntry k f).deslots = s.deslots := rfl
@[simp] theorem State.modEntry_channels (s : State) (k : Nat) (f : Entry → Entry) : (s.modEntry k f).channels = s.channels := rfl
@[simp] theorem State.modEntry_lamps (s : State) (k : Nat) (f : Entry → Entry) : (s.modEntry k f).lamps = s.lamps := rfl
@[simp] theorem State.modEntry_power (s : State) (k : Nat) (f : Entry → Entry) : (s.modEntry k f).power = s.power := rfl
@[simp] theorem State.modEntry_supply (s : State) (k : Nat) (f : Entry → Entry) : (s.modEntry k f).supply = s.supply := rfl
@[simp] theorem State.modEntry_exceptions (s : State) (k : Nat) (f : Entry → Entry) : (s.modEntry k f).exceptions = s.exceptions := rfl
@[simp] theorem State.modEntry_ports (s : State) (k : Nat) (f : Entry → Entry) : (s.modEntry k f).ports = s.ports := rfl
@[simp] theorem State.modEntry_pendingReset (s : State) (k : Nat) (f : Entry → Entry) : (s.modEntry k f).pendingReset = s.pendingReset := rfl

@[simp] theorem State.modDetector_pending (s : State) (l : Lane) (k : DetKind) (f : Detector → Detector) :
    (s.modDetector l k f).pending = s.pending := by
  cases k <;> rfl
@[simp] theorem State.modDetector_pins (s : State) (l : Lane) (k : DetKind) (f : Detector → Detector) :
    (s.modDetector l k f).pins = s.pins := by
  cases k <;> rfl
@[simp] theorem State.modDetector_straps (s : State) (l : Lane) (k : DetKind) (f : Detector → Detector) :
    (s.modDetector l k f).straps = s.straps := by
  cases k <;> rfl
@[simp] theorem State.modDetector_clock (s : State) (l : Lane) (k : DetKind) (f : Detector → Detector) :
    (s.modDetector l k f).clock = s.clock := by
  cases k <;> rfl
@[simp] theorem State.modDetector_staging (s : State) (l : Lane) (k : DetKind) (f : Detector → Detector) :
    (s.modDetector l k f).staging = s.staging := by
  cases k <;> rfl
@[simp] theorem State.modDetector_heat (s : State) (l : Lane) (k : DetKind) (f : Detector → Detector) :
    (s.modDetector l k f).heat = s.heat := by
  cases k <;> rfl
@[simp] theorem State.modDetector_contexts (s : State) (l : Lane) (k : DetKind) (f : Detector → Detector) :
    (s.modDetector l k f).contexts = s.contexts := by
  cases k <;> rfl
@[simp] theorem State.modDetector_queue (s : State) (l : Lane) (k : DetKind) (f : Detector → Detector) :
    (s.modDetector l k f).queue = s.queue := by
  cases k <;> rfl
@[simp] theorem State.modDetector_queueSeq (s : State) (l : Lane) (k : DetKind) (f : Detector → Detector) :
    (s.modDetector l k f).queueSeq = s.queueSeq := by
  cases k <;> rfl
@[simp] theorem State.modDetector_lanes (s : State) (l : Lane) (k : DetKind) (f : Detector → Detector) :
    (s.modDetector l k f).lanes = s.lanes := by
  cases k <;> rfl
@[simp] theorem State.modDetector_order (s : State) (l : Lane) (k : DetKind) (f : Detector → Detector) :
    (s.modDetector l k f).order = s.order := by
  cases k <;> rfl
@[simp] theorem State.modDetector_book (s : State) (l : Lane) (k : DetKind) (f : Detector → Detector) :
    (s.modDetector l k f).book = s.book := by
  cases k <;> rfl
@[simp] theorem State.modDetector_deslots (s : State) (l : Lane) (k : DetKind) (f : Detector → Detector) :
    (s.modDetector l k f).deslots = s.deslots := by
  cases k <;> rfl
@[simp] theorem State.modDetector_channels (s : State) (l : Lane) (k : DetKind) (f : Detector → Detector) :
    (s.modDetector l k f).channels = s.channels := by
  cases k <;> rfl
@[simp] theorem State.modDetector_lamps (s : State) (l : Lane) (k : DetKind) (f : Detector → Detector) :
    (s.modDetector l k f).lamps = s.lamps := by
  cases k <;> rfl
@[simp] theorem State.modDetector_power (s : State) (l : Lane) (k : DetKind) (f : Detector → Detector) :
    (s.modDetector l k f).power = s.power := by
  cases k <;> rfl
@[simp] theorem State.modDetector_supply (s : State) (l : Lane) (k : DetKind) (f : Detector → Detector) :
    (s.modDetector l k f).supply = s.supply := by
  cases k <;> rfl
@[simp] theorem State.modDetector_exceptions (s : State) (l : Lane) (k : DetKind) (f : Detector → Detector) :
    (s.modDetector l k f).exceptions = s.exceptions := by
  cases k <;> rfl
@[simp] theorem State.modDetector_ports (s : State) (l : Lane) (k : DetKind) (f : Detector → Detector) :
    (s.modDetector l k f).ports = s.ports := by
  cases k <;> rfl
@[simp] theorem State.modDetector_pendingReset (s : State) (l : Lane) (k : DetKind) (f : Detector → Detector) :
    (s.modDetector l k f).pendingReset = s.pendingReset := by
  cases k <;> rfl

@[simp] theorem post_pending (s : State) (a : Alert) : (post a s).pending = s.pending := rfl
@[simp] theorem post_pins (s : State) (a : Alert) : (post a s).pins = s.pins := rfl
@[simp] theorem post_straps (s : State) (a : Alert) : (post a s).straps = s.straps := rfl
@[simp] theorem post_clock (s : State) (a : Alert) : (post a s).clock = s.clock := rfl
@[simp] theorem post_staging (s : State) (a : Alert) : (post a s).staging = s.staging := rfl
@[simp] theorem post_heat (s : State) (a : Alert) : (post a s).heat = s.heat := rfl
@[simp] theorem post_detectors (s : State) (a : Alert) : (post a s).detectors = s.detectors := rfl
@[simp] theorem post_contexts (s : State) (a : Alert) : (post a s).contexts = s.contexts := rfl
@[simp] theorem post_queue (s : State) (a : Alert) : (post a s).queue = s.queue := rfl
@[simp] theorem post_queueSeq (s : State) (a : Alert) : (post a s).queueSeq = s.queueSeq := rfl
@[simp] theorem post_lanes (s : State) (a : Alert) : (post a s).lanes = s.lanes := rfl
@[simp] theorem post_order (s : State) (a : Alert) : (post a s).order = s.order := rfl
@[simp] theorem post_book (s : State) (a : Alert) : (post a s).book = s.book := rfl
@[simp] theorem post_deslots (s : State) (a : Alert) : (post a s).deslots = s.deslots := rfl
@[simp] theorem post_channels (s : State) (a : Alert) : (post a s).channels = s.channels := rfl
@[simp] theorem post_lamps (s : State) (a : Alert) : (post a s).lamps = s.lamps := rfl
@[simp] theorem post_power (s : State) (a : Alert) : (post a s).power = s.power := rfl
@[simp] theorem post_supply (s : State) (a : Alert) : (post a s).supply = s.supply := rfl
@[simp] theorem post_exceptions (s : State) (a : Alert) : (post a s).exceptions = s.exceptions := rfl
@[simp] theorem post_pendingReset (s : State) (a : Alert) : (post a s).pendingReset = s.pendingReset := rfl

@[simp] theorem countEvent_pending (s : State) (c : CounterClass) : (countEvent c s).pending = s.pending := rfl
@[simp] theorem countEvent_pins (s : State) (c : CounterClass) : (countEvent c s).pins = s.pins := rfl
@[simp] theorem countEvent_straps (s : State) (c : CounterClass) : (countEvent c s).straps = s.straps := rfl
@[simp] theorem countEvent_clock (s : State) (c : CounterClass) : (countEvent c s).clock = s.clock := rfl
@[simp] theorem countEvent_staging (s : State) (c : CounterClass) : (countEvent c s).staging = s.staging := rfl
@[simp] theorem countEvent_heat (s : State) (c : CounterClass) : (countEvent c s).heat = s.heat := rfl
@[simp] theorem countEvent_detectors (s : State) (c : CounterClass) : (countEvent c s).detectors = s.detectors := rfl
@[simp] theorem countEvent_contexts (s : State) (c : CounterClass) : (countEvent c s).contexts = s.contexts := rfl
@[simp] theorem countEvent_queue (s : State) (c : CounterClass) : (countEvent c s).queue = s.queue := rfl
@[simp] theorem countEvent_queueSeq (s : State) (c : CounterClass) : (countEvent c s).queueSeq = s.queueSeq := rfl
@[simp] theorem countEvent_lanes (s : State) (c : CounterClass) : (countEvent c s).lanes = s.lanes := rfl
@[simp] theorem countEvent_order (s : State) (c : CounterClass) : (countEvent c s).order = s.order := rfl
@[simp] theorem countEvent_book (s : State) (c : CounterClass) : (countEvent c s).book = s.book := rfl
@[simp] theorem countEvent_deslots (s : State) (c : CounterClass) : (countEvent c s).deslots = s.deslots := rfl
@[simp] theorem countEvent_channels (s : State) (c : CounterClass) : (countEvent c s).channels = s.channels := rfl
@[simp] theorem countEvent_lamps (s : State) (c : CounterClass) : (countEvent c s).lamps = s.lamps := rfl
@[simp] theorem countEvent_power (s : State) (c : CounterClass) : (countEvent c s).power = s.power := rfl
@[simp] theorem countEvent_supply (s : State) (c : CounterClass) : (countEvent c s).supply = s.supply := rfl
@[simp] theorem countEvent_exceptions (s : State) (c : CounterClass) : (countEvent c s).exceptions = s.exceptions := rfl
@[simp] theorem countEvent_pendingReset (s : State) (c : CounterClass) : (countEvent c s).pendingReset = s.pendingReset := rfl

@[simp] theorem withExceptions_pending (s : State) (e : Exceptions) : (withExceptions e s).pending = s.pending := by
  unfold withExceptions; split <;> rfl
@[simp] theorem withExceptions_pins (s : State) (e : Exceptions) : (withExceptions e s).pins = s.pins := by
  unfold withExceptions; split <;> rfl
@[simp] theorem withExceptions_straps (s : State) (e : Exceptions) : (withExceptions e s).straps = s.straps := by
  unfold withExceptions; split <;> rfl
@[simp] theorem withExceptions_clock (s : State) (e : Exceptions) : (withExceptions e s).clock = s.clock := by
  unfold withExceptions; split <;> rfl
@[simp] theorem withExceptions_staging (s : State) (e : Exceptions) : (withExceptions e s).staging = s.staging := by
  unfold withExceptions; split <;> rfl
@[simp] theorem withExceptions_heat (s : State) (e : Exceptions) : (withExceptions e s).heat = s.heat := by
  unfold withExceptions; split <;> rfl
@[simp] theorem withExceptions_detectors (s : State) (e : Exceptions) : (withExceptions e s).detectors = s.detectors := by
  unfold withExceptions; split <;> rfl
@[simp] theorem withExceptions_contexts (s : State) (e : Exceptions) : (withExceptions e s).contexts = s.contexts := by
  unfold withExceptions; split <;> rfl
@[simp] theorem withExceptions_queue (s : State) (e : Exceptions) : (withExceptions e s).queue = s.queue := by
  unfold withExceptions; split <;> rfl
@[simp] theorem withExceptions_queueSeq (s : State) (e : Exceptions) : (withExceptions e s).queueSeq = s.queueSeq := by
  unfold withExceptions; split <;> rfl
@[simp] theorem withExceptions_lanes (s : State) (e : Exceptions) : (withExceptions e s).lanes = s.lanes := by
  unfold withExceptions; split <;> rfl
@[simp] theorem withExceptions_order (s : State) (e : Exceptions) : (withExceptions e s).order = s.order := by
  unfold withExceptions; split <;> rfl
@[simp] theorem withExceptions_book (s : State) (e : Exceptions) : (withExceptions e s).book = s.book := by
  unfold withExceptions; split <;> rfl
@[simp] theorem withExceptions_deslots (s : State) (e : Exceptions) : (withExceptions e s).deslots = s.deslots := by
  unfold withExceptions; split <;> rfl
@[simp] theorem withExceptions_channels (s : State) (e : Exceptions) : (withExceptions e s).channels = s.channels := by
  unfold withExceptions; split <;> rfl
@[simp] theorem withExceptions_lamps (s : State) (e : Exceptions) : (withExceptions e s).lamps = s.lamps := by
  unfold withExceptions; split <;> rfl
@[simp] theorem withExceptions_power (s : State) (e : Exceptions) : (withExceptions e s).power = s.power := by
  unfold withExceptions; split <;> rfl
@[simp] theorem withExceptions_supply (s : State) (e : Exceptions) : (withExceptions e s).supply = s.supply := by
  unfold withExceptions; split <;> rfl
@[simp] theorem withExceptions_pendingReset (s : State) (e : Exceptions) : (withExceptions e s).pendingReset = s.pendingReset := by
  unfold withExceptions; split <;> rfl
@[simp] theorem withExceptions_exceptions (s : State) (e : Exceptions) : (withExceptions e s).exceptions = e := by
  unfold withExceptions; split <;> rfl

@[simp] theorem raise_pending (s : State) (k : ExcKind) (l : Option Lane) (o : Option Source) (d : Detail) :
    (raise k l o d s).pending = s.pending := withExceptions_pending ..
@[simp] theorem raise_pins (s : State) (k : ExcKind) (l : Option Lane) (o : Option Source) (d : Detail) :
    (raise k l o d s).pins = s.pins := withExceptions_pins ..
@[simp] theorem raise_straps (s : State) (k : ExcKind) (l : Option Lane) (o : Option Source) (d : Detail) :
    (raise k l o d s).straps = s.straps := withExceptions_straps ..
@[simp] theorem raise_clock (s : State) (k : ExcKind) (l : Option Lane) (o : Option Source) (d : Detail) :
    (raise k l o d s).clock = s.clock := withExceptions_clock ..
@[simp] theorem raise_staging (s : State) (k : ExcKind) (l : Option Lane) (o : Option Source) (d : Detail) :
    (raise k l o d s).staging = s.staging := withExceptions_staging ..
@[simp] theorem raise_heat (s : State) (k : ExcKind) (l : Option Lane) (o : Option Source) (d : Detail) :
    (raise k l o d s).heat = s.heat := withExceptions_heat ..
@[simp] theorem raise_detectors (s : State) (k : ExcKind) (l : Option Lane) (o : Option Source) (d : Detail) :
    (raise k l o d s).detectors = s.detectors := withExceptions_detectors ..
@[simp] theorem raise_contexts (s : State) (k : ExcKind) (l : Option Lane) (o : Option Source) (d : Detail) :
    (raise k l o d s).contexts = s.contexts := withExceptions_contexts ..
@[simp] theorem raise_queue (s : State) (k : ExcKind) (l : Option Lane) (o : Option Source) (d : Detail) :
    (raise k l o d s).queue = s.queue := withExceptions_queue ..
@[simp] theorem raise_queueSeq (s : State) (k : ExcKind) (l : Option Lane) (o : Option Source) (d : Detail) :
    (raise k l o d s).queueSeq = s.queueSeq := withExceptions_queueSeq ..
@[simp] theorem raise_lanes (s : State) (k : ExcKind) (l : Option Lane) (o : Option Source) (d : Detail) :
    (raise k l o d s).lanes = s.lanes := withExceptions_lanes ..
@[simp] theorem raise_order (s : State) (k : ExcKind) (l : Option Lane) (o : Option Source) (d : Detail) :
    (raise k l o d s).order = s.order := withExceptions_order ..
@[simp] theorem raise_book (s : State) (k : ExcKind) (l : Option Lane) (o : Option Source) (d : Detail) :
    (raise k l o d s).book = s.book := withExceptions_book ..
@[simp] theorem raise_deslots (s : State) (k : ExcKind) (l : Option Lane) (o : Option Source) (d : Detail) :
    (raise k l o d s).deslots = s.deslots := withExceptions_deslots ..
@[simp] theorem raise_channels (s : State) (k : ExcKind) (l : Option Lane) (o : Option Source) (d : Detail) :
    (raise k l o d s).channels = s.channels := withExceptions_channels ..
@[simp] theorem raise_lamps (s : State) (k : ExcKind) (l : Option Lane) (o : Option Source) (d : Detail) :
    (raise k l o d s).lamps = s.lamps := withExceptions_lamps ..
@[simp] theorem raise_power (s : State) (k : ExcKind) (l : Option Lane) (o : Option Source) (d : Detail) :
    (raise k l o d s).power = s.power := withExceptions_power ..
@[simp] theorem raise_supply (s : State) (k : ExcKind) (l : Option Lane) (o : Option Source) (d : Detail) :
    (raise k l o d s).supply = s.supply := withExceptions_supply ..
@[simp] theorem raise_pendingReset (s : State) (k : ExcKind) (l : Option Lane) (o : Option Source) (d : Detail) :
    (raise k l o d s).pendingReset = s.pendingReset := withExceptions_pendingReset ..

@[simp] theorem raise_exceptions (s : State) (k : ExcKind) (l : Option Lane) (o : Option Source) (d : Detail) :
    (raise k l o d s).exceptions =
      s.exceptions.set k ((s.exceptions.get k).occur ⟨l, o, s.heat.raceClock, s.now, d⟩) := withExceptions_exceptions ..

end Sys2Proof.Machine
end

