-- ==== Sys2Proof/Laws/Operations.lean ====
section
/-! SUPPORT. What the shared operations leave: `Kept s t` says that `t` has the queue of commands, pins, straps, clock, staging
record, supply filter and pending reset of `s`, and that at its ports alert items have at most joined and counters moved. Every
operation of the blocks keeps so much; a proof about a command cites the lemma of the operation its meaning calls. -/

namespace Sys2Proof.Machine

/-! ### What an operation leaves at a port -/

/-- A port that an operation of a block may leave: alert items have joined, the counter has risen or stands (R188, R190). -/
structure OnlyPosted (x y : PortState) : Prop where
  receive : y.receive = x.receive
  lastByte : y.lastByte = x.lastByte
  overrun : y.overrun = x.overrun
  response : y.response = x.response
  transmitEnable : y.transmitEnable = x.transmitEnable
  window : y.window = x.window
  snapshot : y.snapshot = x.snapshot
  alertMask : y.alertMask = x.alertMask
  counterClass : y.counterClass = x.counterClass
  alerts : ∀ a : Alert, x.alerts.has a = true → y.alerts.has a = true
  counter : min 255 x.counter ≤ y.counter

theorem OnlyPosted.refl (x : PortState) : OnlyPosted x x :=
  ⟨rfl, rfl, rfl, rfl, rfl, rfl, rfl, rfl, rfl, fun _ h => h, by omega⟩

theorem OnlyPosted.trans {x y z : PortState} (h : OnlyPosted x y) (g : OnlyPosted y z) : OnlyPosted x z where
  receive := g.receive.trans h.receive
  lastByte := g.lastByte.trans h.lastByte
  overrun := g.overrun.trans h.overrun
  response := g.response.trans h.response
  transmitEnable := g.transmitEnable.trans h.transmitEnable
  window := g.window.trans h.window
  snapshot := g.snapshot.trans h.snapshot
  alertMask := g.alertMask.trans h.alertMask
  counterClass := g.counterClass.trans h.counterClass
  alerts a e := g.alerts a (h.alerts a e)
  counter := by have := h.counter; have := g.counter; omega

/-- An item already in an alert set stays when another joins (R188). -/
theorem AlertSet.has_insert (a b : Alert) (x : AlertSet) (h : x.has b = true) : (x.insert a).has b = true := by
  cases a <;> cases b <;> simp_all [AlertSet.insert, AlertSet.has]

theorem onlyPosted_insert (a : Alert) (x : PortState) : OnlyPosted x { x with alerts := x.alerts.insert a } :=
  { OnlyPosted.refl x with alerts := fun b h => AlertSet.has_insert a b x.alerts h }

theorem onlyPosted_count (c : CounterClass) (x : PortState) :
    OnlyPosted x (if x.counterClass = c then { x with counter := bump255 x.counter } else x) := by
  split
  · exact { OnlyPosted.refl x with counter := by show _ ≤ min 255 (x.counter + 1); omega }
  · exact OnlyPosted.refl x

/-! ### What an operation leaves of the state -/

/-- What every operation of a block leaves. -/
structure Kept (s t : State) : Prop where
  pending : t.pending = s.pending
  pins : t.pins = s.pins
  straps : t.straps = s.straps
  clock : t.clock = s.clock
  staging : t.staging = s.staging
  supply : t.supply = s.supply
  pendingReset : t.pendingReset = s.pendingReset
  ports : ∀ p, OnlyPosted (s.ports.get p) (t.ports.get p)

theorem Kept.refl (s : State) : Kept s s := ⟨rfl, rfl, rfl, rfl, rfl, rfl, rfl, fun _ => .refl _⟩

theorem Kept.trans {s t u : State} (h : Kept s t) (g : Kept t u) : Kept s u where
  pending := g.pending.trans h.pending
  pins := g.pins.trans h.pins
  straps := g.straps.trans h.straps
  clock := g.clock.trans h.clock
  staging := g.staging.trans h.staging
  supply := g.supply.trans h.supply
  pendingReset := g.pendingReset.trans h.pendingReset
  ports p := (h.ports p).trans (g.ports p)

/-- An update of the other fields keeps these. -/
theorem Kept.of_rest {s t : State} (h : t.pending = s.pending ∧ t.pins = s.pins ∧ t.straps = s.straps ∧ t.clock = s.clock ∧
    t.staging = s.staging ∧ t.supply = s.supply ∧ t.pendingReset = s.pendingReset ∧ t.ports = s.ports) : Kept s t where
  pending := h.1
  pins := h.2.1
  straps := h.2.2.1
  clock := h.2.2.2.1
  staging := h.2.2.2.2.1
  supply := h.2.2.2.2.2.1
  pendingReset := h.2.2.2.2.2.2.1
  ports p := by rw [h.2.2.2.2.2.2.2]; exact .refl _

/-- A fold of operations that each keep this keeps it. -/
theorem Kept.foldl {α : Type} (f : State → α → State) (h : ∀ s a, Kept s (f s a)) (xs : List α) (s : State) :
    Kept s (xs.foldl f s) := by
  induction xs generalizing s with
  | nil => exact .refl s
  | cons a xs ih => exact (h s a).trans (ih (f s a))

/-- A choice between two operations that both keep this keeps it. -/
theorem Kept.ite {s t u : State} {c : Prop} [Decidable c] (h : Kept s t) (g : Kept s u) : Kept s (if c then t else u) := by
  split
  · exact h
  · exact g

/-! ### Updates and alerts -/

theorem Kept.modLane (s : State) (l : Lane) (f : LaneRecord → LaneRecord) : Kept s (s.modLane l f) := .of_rest (by simp)
theorem Kept.modHeat (s : State) (f : Heat → Heat) : Kept s (s.modHeat f) := .of_rest (by simp)
theorem Kept.modContext (s : State) (l : Lane) (f : Context → Context) : Kept s (s.modContext l f) := .of_rest (by simp)
theorem Kept.modChannels (s : State) (l : Lane) (f : Channels → Channels) : Kept s (s.modChannels l f) := .of_rest (by simp)
theorem Kept.modPower (s : State) (l : Lane) (f : PowerLane → PowerLane) : Kept s (s.modPower l f) := .of_rest (by simp)
theorem Kept.modDeslot (s : State) (l : Lane) (f : DeslotRecord → DeslotRecord) : Kept s (s.modDeslot l f) := .of_rest (by simp)
theorem Kept.modEntry (s : State) (k : Nat) (f : Entry → Entry) : Kept s (s.modEntry k f) := .of_rest (by simp)
theorem Kept.modDetector (s : State) (l : Lane) (k : DetKind) (f : Detector → Detector) : Kept s (s.modDetector l k f) :=
  .of_rest (by simp)

/-- Posting an alert item reaches every port and nothing else (R188). -/
theorem post_kept (a : Alert) (s : State) : Kept s (post a s) where
  pending := rfl
  pins := rfl
  straps := rfl
  clock := rfl
  staging := rfl
  supply := rfl
  pendingReset := rfl
  ports p := by
    show OnlyPosted _ ((s.ports.mapPort fun _ x => { x with alerts := x.alerts.insert a }).get p)
    rw [Ports.get_mapPort]
    exact onlyPosted_insert a _

/-- Counting an event reaches the counters of its class and nothing else (R190). -/
theorem countEvent_kept (c : CounterClass) (s : State) : Kept s (countEvent c s) where
  pending := rfl
  pins := rfl
  straps := rfl
  clock := rfl
  staging := rfl
  supply := rfl
  pendingReset := rfl
  ports p := by
    show OnlyPosted _ ((s.ports.mapPort fun _ x =>
      if x.counterClass = c then { x with counter := bump255 x.counter } else x).get p)
    rw [Ports.get_mapPort]
    exact onlyPosted_count c _

theorem withExceptions_kept (e : Exceptions) (s : State) : Kept s (withExceptions e s) := by
  have h : Kept s { s with exceptions := e } := .of_rest ⟨rfl, rfl, rfl, rfl, rfl, rfl, rfl, rfl⟩
  unfold withExceptions
  split
  · exact h.trans (post_kept _ _)
  · exact h

/-- An occurrence of a kind touches the exception records and the alerts alone (R163, R167). -/
theorem raise_kept (k : ExcKind) (lane : Option Lane) (src : Option Source) (d : Detail) (s : State) :
    Kept s (raise k lane src d s) := withExceptions_kept _ s

theorem settle_kept (s : State) : Kept s (settle s) := .of_rest ⟨rfl, rfl, rfl, rfl, rfl, rfl, rfl, rfl⟩

/-! ### Scoring, order and heat end -/

theorem rescore_kept (l : Lane) (s : State) : Kept s (rescore l s) := by
  unfold rescore
  exact .ite ((Kept.modLane s l _).trans (raise_kept _ _ _ _ _)) (Kept.modLane s l _)

theorem addPenaltyTime_kept (l : Lane) (n : Nat) (s : State) : Kept s (addPenaltyTime l n s) := by
  unfold addPenaltyTime
  exact .ite ((Kept.modLane s l _).trans (raise_kept _ _ _ _ _)) (Kept.modLane s l _)

theorem addDeduction_kept (l : Lane) (n : Nat) (s : State) : Kept s (addDeduction l n s) := by
  unfold addDeduction
  exact .ite ((Kept.modLane s l _).trans (raise_kept _ _ _ _ _)) (Kept.modLane s l _)

theorem reorder_kept (s : State) : Kept s (reorder s) := by
  have h (o : List Lane) (x : Lanes LaneRecord) : Kept s { s with order := o, lanes := x } :=
    .of_rest ⟨rfl, rfl, rfl, rfl, rfl, rfl, rfl, rfl⟩
  unfold reorder
  exact .ite ((h _ _).trans (post_kept _ _)) (h _ _)

theorem toPhase_kept (ph : Phase) (s : State) : Kept s (toPhase ph s) := (Kept.modHeat s _).trans (post_kept _ _)

theorem enterRacing_kept (t : ResumeTarget) (s : State) : Kept s (enterRacing t s) :=
  (Kept.modHeat s _).trans (toPhase_kept _ _)

/-! ### The book and the channels -/

theorem setTag_kept (k : Nat) (t : Tag) (s : State) : Kept s (setTag k t s) := (Kept.modEntry s k _).trans (post_kept _ _)

theorem closeEntry_kept (k : Nat) (t : Tag) (o : Outcomes) (s : State) : Kept s (closeEntry k t o s) := by
  unfold closeEntry
  refine Kept.trans ?_ (post_kept _ _)
  exact .of_rest ⟨rfl, rfl, rfl, rfl, rfl, rfl, rfl, rfl⟩

theorem convertWaiting_kept (l : Lane) (s : State) (seq : Nat) : Kept s (convertWaiting l s seq) := by
  unfold convertWaiting
  split
  · exact .refl s
  · exact (closeEntry_kept _ _ _ s).trans (addPenaltyTime_kept _ _ _)

theorem closeUnserved_kept (mark : Outcomes → Outcomes) (s : State) (seq : Nat) : Kept s (closeUnserved mark s seq) := by
  unfold closeUnserved
  split
  · exact .refl s
  · exact closeEntry_kept _ _ _ s

/-- Closing a lane's channels (R139 to R141). -/
theorem closeChannels_kept (l : Lane) (s : State) : Kept s (closeChannels l s).1 := by
  unfold closeChannels
  dsimp only
  refine Kept.trans ?_ (Kept.modChannels _ _ _)
  refine Kept.trans ?_ (Kept.foldl _ (closeUnserved_kept _) _ _)
  refine Kept.trans ?_ (Kept.foldl _ (closeUnserved_kept _) _ _)
  refine Kept.trans ?_ (Kept.foldl _ (convertWaiting_kept l) _ _)
  exact Kept.foldl _ (closeUnserved_kept _) _ s

theorem endLane_kept (fractions : Bool) (touched : List Lane) (s : State) (l : Lane) : Kept s (endLane fractions touched s l) := by
  have h := closeChannels_kept l s
  unfold endLane
  generalize closeChannels l s = x at h
  obtain ⟨s1, converted⟩ := x
  exact .ite ((h.trans (.ite (Kept.modLane _ _ _) (.refl _))).trans (rescore_kept _ _))
    (h.trans (.ite (Kept.modLane _ _ _) (.refl _)))

/-- Every entry into ENDED (R62). -/
theorem enterEnded_kept (e : Ending) (fractions : Bool) (touched : List Lane) (s : State) :
    Kept s (enterEnded e fractions touched s) := by
  unfold enterEnded
  have h := ((Kept.modHeat s (Heat.ended e)).trans (post_kept .phase _)).trans
    (Kept.foldl _ (endLane_kept fractions touched) Lane.all _)
  exact Kept.trans (.ite (h.trans (post_kept _ _)) h) (reorder_kept _)

theorem finishLaneChange_kept (l : Lane) (left : Bool) (s : State) : Kept s (finishLaneChange l left s) := by
  unfold finishLaneChange endAllFinished
  exact .ite (enterEnded_kept _ _ _ s) ((rescore_kept l s).trans (reorder_kept _))

theorem leaderFinish_kept (c : Nat) (s : State) : Kept s (leaderFinish c s) := by
  unfold leaderFinish
  split
  · exact (Kept.modHeat s _).trans (enterRacing_kept _ _)
  all_goals first | exact (Kept.modHeat s _).trans (Kept.modHeat _ _) | exact Kept.modHeat s _

theorem standDown_kept (l : Lane) (s : State) : Kept s (standDown l s) :=
  ((Kept.modLane s l _).trans (closeChannels_kept l _)).trans (finishLaneChange_kept _ _ _)

/-! ### Laps -/

theorem announceLap_kept (s : State) : Kept s (announceLap s) := (post_kept _ s).trans (countEvent_kept _ _)

theorem reportFinish_kept (l : Lane) (c : Nat) (s : State) : Kept s (reportFinish l c s) := by
  unfold reportFinish
  exact Kept.trans (.ite (leaderFinish_kept c s) (.refl s)) (closeChannels_kept l _)

theorem recordTimed_kept (l : Lane) (x : TimedLap) (s : State) : Kept s (recordTimed l x s).1 := by
  have full (u : State) (c : Prop) [Decidable c] (g : Kept s u) :
      Kept s (if c then raise .saturation (some l) none .lapsCounted u else u) := .ite (g.trans (raise_kept _ _ _ _ _)) g
  have finish (u : State) (c : Prop) [Decidable c] (g : Kept s u) : Kept s (if c then reportFinish l x.capture u else u) :=
    .ite (g.trans (reportFinish_kept _ _ _)) g
  unfold recordTimed
  refine Kept.trans ?_ (finishLaneChange_kept _ _ _)
  refine Kept.trans ?_ (announceLap_kept _)
  exact finish _ _ (full _ _ (Kept.modLane s l _))

theorem recordCredited_kept (l : Lane) (c : Nat) (s : State) : Kept s (recordCredited l c s).1 := by
  unfold recordCredited
  dsimp only
  split <;> dsimp only
  · exact ((raise_kept _ _ _ _ s).trans (announceLap_kept _)).trans (finishLaneChange_kept _ _ _)
  · exact ((Kept.modLane s l _).trans (announceLap_kept _)).trans (finishLaneChange_kept _ _ _)

/-! ### Suspects -/

theorem supersede_kept (l : Lane) (s : State) : Kept s (supersede l s) := .of_rest ⟨rfl, rfl, rfl, rfl, rfl, rfl, rfl, rfl⟩

/-- Accepting a suspect (R27, R28). -/
theorem acceptSuspect_kept (x : Suspect) (s : State) : Kept s (acceptSuspect x s).1 := by
  unfold acceptSuspect openAfterAccept
  split
  · exact ((recordTimed_kept x.lane _ s).trans (Kept.modContext _ _ _)).trans (supersede_kept _ _)
  · exact recordCredited_kept _ _ s

theorem resolveByDefault_kept (x : Suspect) (s : State) : Kept s (resolveByDefault x s) := by
  unfold resolveByDefault
  split
  · exact .refl s
  · exact acceptSuspect_kept x s

theorem resolveOldest_kept (s : State) : Kept s (resolveOldest s) := by
  unfold resolveOldest
  split
  · exact .refl s
  · refine Kept.trans ?_ (resolveByDefault_kept _ _)
    exact .of_rest ⟨rfl, rfl, rfl, rfl, rfl, rfl, rfl, rfl⟩

/-- Draining the adjudication queue (R37). -/
theorem drainQueue_kept (n : Nat) (s : State) : Kept s (drainQueue n s) := by
  induction n generalizing s with
  | zero => exact .refl s
  | succ n ih => exact (resolveOldest_kept s).trans (ih _)

theorem takeSuspect_kept (l : Lane) (k : DetKind) (c : Nat) (why : SuspectReason) (s : State) :
    Kept s (takeSuspect l k c why s) := by
  have h := (raise_kept .suspect (some l) (some (.detector k)) why.detail s).trans (countEvent_kept .suspects _)
  unfold takeSuspect enqueueSuspect
  refine .ite (h.trans (resolveByDefault_kept _ _)) (h.trans ?_)
  refine Kept.trans ?_ (post_kept _ _)
  exact .of_rest ⟨rfl, rfl, rfl, rfl, rfl, rfl, rfl, rfl⟩

/-! ### Penalties -/

theorem createEntry_kept (slot : Nat) (c : NewCall) (s : State) : Kept s (createEntry slot c s) := by
  unfold createEntry
  refine Kept.trans ?_ (post_kept _ _)
  exact .of_rest ⟨rfl, rfl, rfl, rfl, rfl, rfl, rfl, rfl⟩

theorem makeRoom_kept {s t : State} {k : Nat} (h : makeRoom s = some (t, k)) : Kept s t := by
  unfold makeRoom at h
  split at h
  · cases h; exact .refl s
  · split at h
    · cases h
    · cases h
      exact (setTag_kept _ _ s).trans (.of_rest ⟨rfl, rfl, rfl, rfl, rfl, rfl, rfl, rfl⟩)

theorem activateKind_kept (slot : Nat) (e : Entry) (s : State) : Kept s (activateKind slot e s) := by
  have close (o : Outcomes) (t : State) (h : Kept s t) : Kept s (closeEntry slot .served o t) :=
    h.trans (closeEntry_kept _ _ _ _)
  unfold activateKind
  split
  · exact close _ _ (.refl s)
  · exact (close _ _ (addPenaltyTime_kept _ _ s)).trans (finishLaneChange_kept _ _ _)
  · exact .ite ((close _ _ (addPenaltyTime_kept _ _ s)).trans (finishLaneChange_kept _ _ _))
      ((close _ _ (addDeduction_kept _ _ s)).trans (finishLaneChange_kept _ _ _))
  · exact (close _ _ (.refl s)).trans (standDown_kept _ _)
  · exact .ite ((close _ _ (addPenaltyTime_kept _ _ s)).trans (finishLaneChange_kept _ _ _)) (Kept.modChannels s _ _)
  · exact Kept.modChannels s _ _

theorem activate_kept (slot : Nat) (s : State) : Kept s (activate slot s) :=
  ((Kept.modEntry s slot _).trans (setTag_kept _ _ _)).trans (activateKind_kept _ _ _)

/-- An automatic call (R122, R123). -/
theorem autoCall_kept (l : Lane) (k : Kind) (n : Nat) (o : Origin) (src : Source) (s : State) :
    Kept s (autoCall l k n o src s) := by
  unfold autoCall
  split
  · exact raise_kept _ _ _ _ s
  · rename_i t slot h
    exact ((makeRoom_kept h).trans (createEntry_kept _ _ _)).trans (activate_kept _ _)

/-! ### Crossings -/

theorem countCapLap_kept (l : Lane) (s : State) : Kept s (countCapLap l s) := by
  unfold countCapLap
  split
  · exact .refl s
  · split
    · exact .refl s
    · exact .ite (((Kept.modEntry s _ _).trans (closeEntry_kept _ _ _ _)).trans (Kept.modChannels _ _ _)) (Kept.modEntry s _ _)

theorem startStop_kept (l : Lane) (c : Nat) (s : State) : Kept s (startStop l c s).1 := by
  unfold startStop
  split
  · exact .refl s
  · dsimp only
    exact (setTag_kept _ _ s).trans (Kept.modChannels _ _ _)

theorem startCap_kept (l : Lane) (c : Nat) (s : State) : Kept s (startCap l c s) := by
  unfold startCap
  split
  · exact .refl s
  · exact (setTag_kept _ _ s).trans (Kept.modChannels _ _ _)

/-- The Penalty Server takes a crossing (R132, R133, R136). -/
theorem serverCrossing_kept (l : Lane) (c : Nat) (s : State) : Kept s (serverCrossing l c s).1 := by
  have h := countCapLap_kept l s
  have starts : Kept s (if cutClaim s l then (countCapLap l s, false) else startStop l c (countCapLap l s)).1 := by
    split
    · exact h
    · exact h.trans (startStop_kept l c _)
  have both : Kept s (if cappedClaim s l
      then (if cutClaim s l then (countCapLap l s, false) else startStop l c (countCapLap l s)).1
      else startCap l c (if cutClaim s l then (countCapLap l s, false) else startStop l c (countCapLap l s)).1) :=
    .ite starts (starts.trans (startCap_kept l c _))
  unfold serverCrossing
  split
  · exact both
  · exact both
  all_goals exact .refl s

theorem validLap_kept (l : Lane) (k : DetKind) (c : Nat) (standing : Bool) (s : State) : Kept s (validLap l k c standing s) := by
  have h := recordTimed_kept l ⟨c, validFlags s l k standing, (s.lane l).split, none⟩ s
  unfold validLap
  exact (((h.trans (serverCrossing_kept l c _)).trans (Kept.modDeslot _ _ _)).trans (Kept.modContext _ _ _)).trans
    (supersede_kept _ _)

theorem loseDetector_kept (l : Lane) (k : DetKind) (s : State) : Kept s (loseDetector l k s) := by
  unfold loseDetector promote
  split
  · exact .ite ((Kept.modDetector s _ _ _).trans (Kept.modLane _ _ _)) (Kept.modLane s _ _)
  · exact .ite (Kept.modLane s _ _) (.refl s)

theorem reportDetector_kept (l : Lane) (k : DetKind) (f : FaultReason) (s : State) : Kept s (reportDetector l k f s) := by
  have h := (Kept.modDetector s l k fun d => { d with faultReason := some f }).trans
    (raise_kept .detector (some l) (some (.detector k)) f.detail _)
  unfold reportDetector
  exact .ite ((h.trans (Kept.modDetector _ _ _ _)).trans (loseDetector_kept _ _ _)) h

theorem countSuspect_kept (l : Lane) (k : DetKind) (s : State) : Kept s (countSuspect l k s) := by
  unfold countSuspect
  exact .ite ((Kept.modDetector s _ _ _).trans (reportDetector_kept _ _ _ _)) (Kept.modDetector s _ _ _)

/-- A line crossing is qualified (R21 to R25). -/
theorem qualify_kept (l : Lane) (k : DetKind) (c : Nat) (s : State) : Kept s (qualify l k c s) := by
  have h : Kept s (clearSuspects l k s) := Kept.modDetector s _ _ _
  unfold qualify rebase
  split
  · exact ((h.trans (Kept.modLane _ _ _)).trans (Kept.modContext _ _ _)).trans (supersede_kept _ _)
  · exact h.trans (validLap_kept _ _ _ _ _)
  · exact (countSuspect_kept l k s).trans (takeSuspect_kept _ _ _ _ _)

theorem jumpCrossing_kept (l : Lane) (s : State) : Kept s (jumpCrossing l s) := by
  unfold jumpCrossing
  exact .ite (.refl s) ((Kept.modHeat s _).trans (autoCall_kept _ _ _ _ _ _))

/-- A crossing that the Front End hands over (R18). -/
theorem takeCrossing_kept (l : Lane) (k : DetKind) (c : Nat) (s : State) : Kept s (takeCrossing l k c s) := by
  have line : Kept s (lineCrossing l k c s) := by
    unfold lineCrossing
    split <;> first
      | exact .refl s
      | exact jumpCrossing_kept l s
      | exact .ite (jumpCrossing_kept l s) (qualify_kept l k c s)
      | exact .ite (qualify_kept l k c s) (.refl s)
  have sector : Kept s (sectorCrossing l c s) := by
    unfold sectorCrossing
    exact .ite ((Kept.modContext s _ _).trans (Kept.modLane _ _ _)) (.refl s)
  have event : Kept s (sectorEvent l c s) := by
    unfold sectorEvent
    split
    · exact .refl s
    · split <;> first
        | exact .refl s
        | exact sector
        | exact .ite sector (.refl s)
  unfold takeCrossing
  exact .ite (.refl s) (.ite line event)

end Sys2Proof.Machine
end

