-- ==== Sys2Proof/Laws/PerInstr.lean ====
section
/-! SUPPORT. The family PortOf, one lemma per constructor of `Instr`: a command that a request frame spells arrives at the port
of that frame. -/

namespace Sys2Proof.Laws.PortOf

open Sys2Proof.Machine

/-- A command with a frame is a command of the frame's port. -/
def Statement (i : Instr) : Prop := ∀ (p : Port) (f : Frame), commandFrame i = some (p, f) → commandPort i = some p

/-- A command whose port is read from its frame. -/
theorem of_frame {i : Instr} (h : commandPort i = (commandFrame i).map Prod.fst) : Statement i := by
  intro p f e
  rw [h, e]
  rfl

/-- A command without a frame. -/
theorem of_none {i : Instr} (h : commandFrame i = none) : Statement i := by
  intro p f e
  rw [h] at e
  cases e

theorem powerOn (straps : Straps) : Statement (.powerOn straps) := of_frame rfl
theorem resetPin : Statement (.resetPin) := of_frame rfl
theorem resetPinRelease (straps : Straps) : Statement (.resetPinRelease straps) := of_frame rfl
theorem resetPartClear (p : Port) : Statement (.resetPartClear p) := of_frame rfl
theorem resetPartKeep (p : Port) : Statement (.resetPartKeep p) := of_frame rfl
theorem resetPartTaken : Statement (.resetPartTaken) := of_frame rfl
theorem stageHeat (p : Port) : Statement (.stageHeat p) := of_frame rfl
theorem clearHeat (p : Port) : Statement (.clearHeat p) := of_frame rfl
theorem start (p : Port) : Statement (.start p) := of_frame rfl
theorem redLampLit : Statement (.redLampLit) := of_frame rfl
theorem greenEvent : Statement (.greenEvent) := of_frame rfl
theorem recallStart (p : Port) : Statement (.recallStart p) := of_frame rfl
theorem trackCall (p : Port) : Statement (.trackCall p) := of_frame rfl
theorem resume (p : Port) : Statement (.resume p) := of_frame rfl
theorem resumeLampOut : Statement (.resumeLampOut) := of_frame rfl
theorem resumeCountdownEnd : Statement (.resumeCountdownEnd) := of_frame rfl
theorem heatTimeExpiryFreeze : Statement (.heatTimeExpiryFreeze) := of_frame rfl
theorem heatTimeExpiryRunToLine : Statement (.heatTimeExpiryRunToLine) := of_frame rfl
theorem graceRunOut : Statement (.graceRunOut) := of_frame rfl
theorem settleEvent : Statement (.settleEvent) := of_frame rfl
theorem endHeat (p : Port) : Statement (.endHeat p) := of_frame rfl
theorem clockCap : Statement (.clockCap) := of_frame rfl
theorem greenLampFlash : Statement (.greenLampFlash) := of_frame rfl
theorem filteredLevelChange (l : Lane) (k : DetKind) (broken : Bool) (capture : Nat) (brokenAt : StationTime) : Statement (.filteredLevelChange l k broken capture brokenAt) := of_frame rfl
theorem stuckWatchExpiry (l : Lane) (k : DetKind) : Statement (.stuckWatchExpiry l k) := of_frame rfl
theorem detectorOut (p : Port) (lane : Byte) (kind : Word) : Statement (.detectorOut p lane kind) := of_frame rfl
theorem detectorRestoreLine (p : Port) (lane : Byte) : Statement (.detectorRestoreLine p lane) := of_frame rfl
theorem detectorRestoreSector (p : Port) (lane : Byte) : Statement (.detectorRestoreSector p lane) := of_frame rfl
theorem adjudicationDeadline : Statement (.adjudicationDeadline) := of_frame rfl
theorem accept (p : Port) (seq : Word) : Statement (.accept p seq) := of_frame rfl
theorem reject (p : Port) (seq : Word) : Statement (.reject p seq) := of_frame rfl
theorem call (p : Port) (lane : Byte) (kind : Byte) (amount : Byte) : Statement (.call p lane kind amount) := of_frame rfl
theorem confirm (p : Port) (seq : Word) : Statement (.confirm p seq) := of_frame rfl
theorem confirmWindowLapse (slot : Nat) : Statement (.confirmWindowLapse slot) := of_frame rfl
theorem waive (p : Port) (seq : Word) : Statement (.waive p seq) := of_frame rfl
theorem deslot (p : Port) (lane : Byte) : Statement (.deslot p lane) := of_frame rfl
theorem clearBook (p : Port) : Statement (.clearBook p) := of_frame rfl
theorem stopGoEnd (l : Lane) : Statement (.stopGoEnd l) := of_frame rfl
theorem laneLampFlash (l : Lane) : Statement (.laneLampFlash l) := of_frame rfl
theorem pwmPeriodStart : Statement (.pwmPeriodStart) := of_frame rfl
theorem onTimeEnd (l : Lane) : Statement (.onTimeEnd l) := of_frame rfl
theorem deadTimeEnd (l : Lane) : Statement (.deadTimeEnd l) := of_frame rfl
theorem overcurrentTrip (l : Lane) : Statement (.overcurrentTrip l) := of_frame rfl
theorem retryDelayEnd (l : Lane) : Statement (.retryDelayEnd l) := of_frame rfl
theorem retryWatchEnd (l : Lane) : Statement (.retryWatchEnd l) := of_frame rfl
theorem driveOnRunComplete (l : Lane) : Statement (.driveOnRunComplete l) := of_frame rfl
theorem laneRestore (p : Port) (lane : Byte) : Statement (.laneRestore p lane) := of_frame rfl
theorem supplyLowEdge : Statement (.supplyLowEdge) := of_frame rfl
theorem supplyLowRecovery : Statement (.supplyLowRecovery) := of_frame rfl
theorem setExceptionMask (p : Port) (kinds : Word) : Statement (.setExceptionMask p kinds) := of_frame rfl
theorem clearExceptions (p : Port) (kinds : Word) : Statement (.clearExceptions p kinds) := of_frame rfl
theorem point (p : Port) (selector : Byte) (parameter : Word) : Statement (.point p selector parameter) := of_frame rfl
theorem read (p : Port) : Statement (.read p) := of_frame rfl
theorem write (p : Port) (value : Word) : Statement (.write p value) := of_frame rfl
theorem readAlerts (p : Port) : Statement (.readAlerts p) := of_frame rfl
theorem setAlertMask (p : Port) (items : Word) : Statement (.setAlertMask p items) := of_frame rfl
theorem selectCounter (p : Port) (cls : Word) : Statement (.selectCounter p cls) := of_frame rfl
theorem readCounter (p : Port) : Statement (.readCounter p) := of_frame rfl
theorem identify (p : Port) : Statement (.identify p) := of_frame rfl
theorem frameCheck (p : Port) (f : Frame) : Statement (.frameCheck p f) := of_frame rfl
theorem unknownRequest (p : Port) (code : Byte) : Statement (.unknownRequest p code) := of_frame rfl
theorem framingError (p : Port) : Statement (.framingError p) := of_none rfl
theorem timeout (p : Port) : Statement (.timeout p) := of_none rfl
theorem discardingQuietEnd (p : Port) : Statement (.discardingQuietEnd p) := of_none rfl
theorem overrun (p : Port) : Statement (.overrun p) := of_none rfl
theorem responseSent (p : Port) : Statement (.responseSent p) := of_none rfl
theorem byteReceived (p : Port) (b : Byte) : Statement (.byteReceived p b) := of_none rfl
theorem overcurrentFilteredLevelDeasserted (l : Lane) : Statement (.overcurrentFilteredLevelDeasserted l) := of_frame rfl

end Sys2Proof.Laws.PortOf
end

