-- ==== Sys2Proof/Laws/Records.lean ====
section
/-! SUPPORT. What finding a slot, taking a sequence number and sorting the running order can do, once for each. -/

namespace Sys2Proof.Machine

/-! ### Slots of the book (R105, R106) -/

/-- A slot that is found passes the test, and no lower one does. -/
theorem findSlot_some {test : Entry → Bool} {es : List Entry} {k : Nat} (h : findSlot test es = some k) :
    ∃ e, es[k]? = some e ∧ test e = true ∧ ∀ j, j < k → ∀ x, es[j]? = some x → test x = false := by
  induction es generalizing k with
  | nil => cases h
  | cons e es ih =>
    unfold findSlot at h
    split at h
    · rename_i ht
      cases h
      exact ⟨e, rfl, ht, fun j hj => absurd hj (Nat.not_lt_zero j)⟩
    · rename_i ht
      cases hf : findSlot test es with
      | none => rw [hf] at h; cases h
      | some n =>
        rw [hf] at h
        cases h
        obtain ⟨x, hx, hp, hlow⟩ := ih hf
        refine ⟨x, by simpa using hx, hp, fun j hj y hy => ?_⟩
        cases j with
        | zero => simp at hy; subst hy; simpa using ht
        | succ j => exact hlow j (Nat.lt_of_succ_lt_succ hj) y (by simpa using hy)

/-- No slot is found exactly when none passes the test. -/
theorem findSlot_none {test : Entry → Bool} {es : List Entry} : findSlot test es = none ↔ ∀ e ∈ es, test e = false := by
  induction es with
  | nil => simp [findSlot]
  | cons e es ih =>
    unfold findSlot
    cases h : test e <;> simp [h, ih]

/-- The slot of a sequence number holds an entry of that number (R106). -/
theorem slotOf_some {b : Book} {seq k : Nat} (h : slotOf b seq = some k) :
    ∃ e, b.slots[k]? = some e ∧ e.tag ≠ .empty ∧ e.seq = seq := by
  obtain ⟨e, he, ht, _⟩ := findSlot_some h
  simp only [Bool.and_eq_true, bne_iff_ne, ne_eq, beq_iff_eq] at ht
  exact ⟨e, he, ht.1, ht.2⟩

/-- A slot reads back the entry it was given. -/
theorem State.entry_modEntry_self (s : State) (k : Nat) (f : Entry → Entry) (h : k < s.book.slots.length) :
    (s.modEntry k f).entry k = f (s.entry k) := by
  unfold State.entry State.modEntry
  simp [h, State.entry]

/-- The other slots stay. -/
theorem State.entry_modEntry_ne (s : State) (j k : Nat) (f : Entry → Entry) (h : j ≠ k) :
    (s.modEntry k f).entry j = s.entry j := by
  unfold State.entry State.modEntry
  simp [List.getElem?_set_ne (Ne.symm h)]

/-- The book keeps its number of slots. -/
theorem State.slots_length_modEntry (s : State) (k : Nat) (f : Entry → Entry) :
    (s.modEntry k f).book.slots.length = s.book.slots.length := by
  simp [State.modEntry]

/-! ### Sequence numbers (R30, R106) -/

/-- The next number lies in 1 to 65,535. -/
theorem succSeq_range (n : Nat) : 1 ≤ succSeq n ∧ succSeq n ≤ 65535 := by
  unfold succSeq Config.top16
  split <;> omega

/-- The number taken lies in 1 to 65,535 where the counter does. -/
theorem freeSeq_range (held : List Nat) (fuel n : Nat) (h : 1 ≤ n ∧ n ≤ 65535) :
    1 ≤ freeSeq held fuel n ∧ freeSeq held fuel n ≤ 65535 := by
  induction fuel generalizing n with
  | zero => exact h
  | succ fuel ih =>
    unfold freeSeq
    split
    · exact ih _ (succSeq_range n)
    · exact h

/-! ### The stable sort (R82) -/

/-- Inserting only adds the element. -/
theorem insertStable_perm {α : Type} (le : α → α → Bool) (x : α) (ys : List α) : (insertStable le x ys).Perm (x :: ys) := by
  induction ys with
  | nil => exact .refl _
  | cons y ys ih =>
    unfold insertStable
    split
    · exact .refl _
    · exact (List.Perm.cons y ih).trans (List.Perm.swap x y ys)

/-- A sort only rearranges. -/
theorem sortStable_perm {α : Type} (le : α → α → Bool) (xs : List α) : (sortStable le xs).Perm xs := by
  induction xs with
  | nil => exact .refl _
  | cons x xs ih => exact (insertStable_perm le x _).trans (ih.cons x)

/-- A lane's place in a list is one more than its index, and 0 for a lane that is not in it. -/
theorem placeIn_eq (l : Lane) (xs : List Lane) : placeIn l xs = if l ∈ xs then xs.idxOf l + 1 else 0 := by
  induction xs with
  | nil => rfl
  | cons x xs ih =>
    unfold placeIn
    by_cases h : x = l
    · subst h; simp
    · by_cases hm : l ∈ xs
      · have hb : (x == l) = false := by simpa using h
        rw [ih, List.idxOf_cons, hb]
        simp [h, hm]
      · have hl : l ≠ x := fun e => h e.symm
        rw [ih]
        simp [h, hm, hl]

end Sys2Proof.Machine
end

