-- ==== Sys2Proof/Laws/Requests.lean ====
section
/-! SUPPORT. Requests at a port that waits: what taking, answering and refusing one can do, once for every request. -/

namespace Sys2Proof.Machine

open Sys2Proof.Safety

/-- Outputs, lamps and watches do not depend on the ports. -/
theorem settle_ports (s : State) (P : Ports PortState) : settle { s with ports := P } = { settle s with ports := P } := rfl

/-- While the reset pin is not asserted a command has its effect. -/
theorem whileRunning_of {s : State} {f : State → State} (h : s.pins.reset = false) : whileRunning s f = .next (f s) := by
  simp [whileRunning, h]

/-- The ports once a request at `p` is being answered (R176). -/
def begun (p : Port) (s : State) : Ports PortState :=
  s.ports.set p
    { s.ports.get p with
      receive := .answering
      overrun := false
      lastByte := some s.now }

theorem beginAnswer_eq (p : Port) (s : State) : beginAnswer p s = { s with ports := begun p s } := by
  unfold beginAnswer noteByte State.modPort begun
  simp

/-- A frame error changes the counter of its own port alone (R190). -/
theorem frameError_eq (p : Port) (s : State) :
    frameError p s = { s with ports := s.ports.set p (errorCounted (s.ports.get p)) } := by
  have e : (if (s.ports.get p).counterClass = .frameErrors then
      { s.ports.get p with counter := bump255 (s.ports.get p).counter } else s.ports.get p) =
      errorCounted (s.ports.get p) := by
    unfold errorCounted; split <;> rfl
  unfold frameError State.modPort
  rw [← e]

/-- What the gap test reads (R177). -/
theorem gapReached_iff (s : State) (p : Port) : gapReached s p = true ↔ LongGap s p := by
  unfold gapReached LongGap
  constructor
  · intro h
    split at h
    · rename_i t ht
      exact ⟨t, ht, of_decide_eq_true h⟩
    · cases h
  · intro ⟨t, ht, h⟩
    rw [ht]
    exact decide_eq_true h

theorem gapReached_false {s : State} {p : Port} (h : ¬ LongGap s p) : gapReached s p = false := by
  cases e : gapReached s p
  · rfl
  · exact absurd ((gapReached_iff s p).mp e) h

/-- A request at a waiting port is answered at once. -/
theorem request_ready {p : Port} {s : State} (h : Ready s p) (code : Byte) (body : State → State × Reply) :
    request p code body s = answer p code body s := by
  unfold request onFrame settleGap timeoutDue quietDue
  simp [h.waiting]

/-- A request that the role permits is taken by its owning block on the state whose port is answering. -/
theorem answer_permitted {p : Port} {s : State} {code : Byte} {body : State → State × Reply}
    (h : (s.role p).permits code.toNat = true) :
    answer p code body s =
      respond p code (body { s with ports := begun p s }).2 (body { s with ports := begun p s }).1 := by
  have : ({ s with ports := begun p s } : State).role p = s.role p := rfl
  simp only [answer, beginAnswer_eq, this, h, if_true]

/-- A response that is no refusal changes its port alone. -/
theorem respond_accepted {p : Port} {code : Byte} {r : Reply} {s : State} (h : ∀ x, r.status ≠ .refused x) :
    respond p code r s =
      { s with
        ports := s.ports.set p
          { s.ports.get p with
            response := some ⟨r.status, code, r.data⟩
            transmitEnable := true } } := by
  unfold respond State.modPort
  split
  · rename_i x hx
    exact absurd hx (h x)
  all_goals rfl

/-- A refusal of a request at a waiting port changes the ports alone. -/
theorem respond_refusal (p : Port) (code : Byte) (r : Reason) (s : State) :
    respond p code ⟨.refused r, 0⟩ { s with ports := begun p s } = { s with ports := portsRefused p code r s } := by
  have e : (respond p code ⟨.refused r, 0⟩ { s with ports := begun p s }).ports = portsRefused p code r s := by
    unfold portsRefused portsAnswered portsPosted
    apply Ports.ext_get
    intro q
    simp only [respond, countEvent, State.modPort, begun, Ports.get_mapPort, Ports.get_set]
    by_cases hq : q = p
    · subst hq
      simp only [if_true, posted, answered, List.foldl, Option.some.injEq, eq_comm]
      split <;> rfl
    · simp only [hq, if_false, posted, List.foldl, Option.some.injEq, eq_comm]
      split <;> rfl
  calc respond p code ⟨.refused r, 0⟩ { s with ports := begun p s }
      = { s with ports := (respond p code ⟨.refused r, 0⟩ { s with ports := begun p s }).ports } := rfl
    _ = _ := by rw [e]

/-- A request whose owning block refuses it leaves everything but the ports (R179). -/
theorem answer_refusal {p : Port} {s : State} {code : Byte} {body : State → State × Reply} {r : Reason}
    (h : (s.role p).permits code.toNat = true)
    (hb : body { s with ports := begun p s } = refuse r { s with ports := begun p s }) :
    answer p code body s = { s with ports := portsRefused p code r s } := by
  rw [answer_permitted h, hb]
  exact respond_refusal p code r s

/-- A request that the role does not permit leaves everything but the ports (R181). -/
theorem answer_forbidden {p : Port} {s : State} {code : Byte} {body : State → State × Reply}
    (h : (s.role p).permits code.toNat = false) :
    answer p code body s = { s with ports := portsRefused p code .role s } := by
  have : ({ s with ports := begun p s } : State).role p = s.role p := rfl
  simp only [answer, beginAnswer_eq, this, h]
  exact respond_refusal p code .role s

end Sys2Proof.Machine
end

