-- ==== Sys2Proof/Tests/Slice0.lean ====
section
/-! SUPPORT. The model's own tests: the checks of WellFormed, the worked cases of the spec, and for each obligation with
hypotheses a witness that concrete states and operands meet them, each clause's at a boundary. -/

namespace Sys2Proof.Tests

-- One test after another: elaborated side by side they take more memory than the check grants.
set_option Elab.async false

open Sys2Proof.Machine Sys2Proof.Safety

/-! ### States to test on -/

/-- The state an outcome answers, or a given one. -/
def stateOr (s : State) : Host.Outcome State Fault Refusal → State
  | .next t => t
  | .fault _ => s
  | .refused _ => s

/-- The state after one command. -/
def after (c : Instr) (s : State) : State := stateOr s (exec c s)

/-- A lane in the race with one lap run, last across the line at 100,000. -/
def runner : LaneRecord :=
  { LaneRecord.fresh 1 .running 1 10 with laps := 1, lastCrossing := 100000, lastLap := some 100000 }

/-- A detector in service. -/
def inService : Detector := { Detector.reset with state := .inService }

/-- A heat in a phase: every lane RUNNING with one lap, every detector IN_SERVICE, race clock at 5 s of a heat of 300 s. -/
def heat (ph : Phase) : State :=
  { State.reset with
    heat := { Heat.reset with phase := ph, raceClock := 500000, expiryTime := some 30000000 }
    lanes := Lanes.all runner
    order := Lane.all
    contexts := Lanes.all ⟨true, none, false, false, false⟩
    detectors := ⟨Lanes.all inService, Lanes.all inService⟩ }

/-- A state at a station time. -/
def at' (t : StationTime) (s : State) : State := { s with clock := { s.clock with stationTime := t } }

/-- A state with other staging. -/
def staged (f : Staging → Staging) (s : State) : State := { s with staging := f s.staging }

/-- An open entry of lane 1 in the book. -/
def entry (tag : Tag) (seq : Nat) (kind : Kind) : Entry :=
  { Entry.unused with tag := tag, seq := seq, lane := .l1, kind := kind, amount := 5 }

/-- A state whose slot 0 holds an entry. -/
def holding (e : Entry) (s : State) : State :=
  { s with book := { s.book with slots := e :: List.replicate 15 Entry.unused, nextSeq := e.seq + 1 } }

/-- A suspect of lane 1 captured at 400,000. -/
def suspect (seq : Nat) (why : SuspectReason) : Suspect := ⟨seq, .l1, .line, 400000, why, 0, false⟩

/-! ### WellFormed refuses an ill-formed term by each check -/

theorem test_capture_beyond_the_cap_is_ill_formed :
    (Instr.filteredLevelChange .l1 .line true 3960000001 0).wellFormed = false := by decide

theorem test_slot_beyond_the_book_is_ill_formed : (Instr.confirmWindowLapse 16).wellFormed = false := by decide

theorem test_good_check_is_no_bad_frame : (Instr.frameCheck .p0 ⟨11, 3, 2, 5, 235⟩).wellFormed = false := by decide

theorem test_a_request_code_is_not_unknown :
    (Instr.unknownRequest .p0 1).wellFormed = false ∧ (Instr.unknownRequest .p0 28).wellFormed = false ∧
      (Instr.unknownRequest .p0 29).wellFormed = true ∧ (Instr.unknownRequest .p0 0).wellFormed = true := by decide

/-! ### The spec's worked frames (chapter 11) -/

/-- A TIME_ADD of 5 s against lane 3: code 11, selector 3, parameter bytes 2 and 5, check 235. -/
theorem test_worked_call_frame :
    (commandFrame (.call .p0 3 2 5)).map (fun x => Frame.bytes x.2) = some [11, 3, 2, 5, 235] := by decide

/-- Its response with entry 61: status 0, echo 11, data bytes 0 and 61, check 184. -/
theorem test_worked_response : Response.bytes ⟨.done, 11, 61⟩ = [0, 11, 0, 61, 184] := by decide

/-- A display points at word 10 of lane 3 in STEP mode: selector 16, parameter bytes 2 and 10. -/
theorem test_worked_point_fields :
    pointFields 16 (2 * 256 + 10) = ⟨0, 1, false, false, 2, 10, 522⟩ := by decide

/-! ### Rounding (section 5.10) -/

/-- 1,234,567 ticks at each resolution. -/
theorem test_worked_rounding :
    [Resolution.us10, .us100, .ms1, .ms10].map (fun r => reported { Staging.default with resolution := r } 1234567) =
      [1234567, 123457, 12346, 1235] := by decide

/-- Ties go to the even quotient, and an average of seven laps is rounded once. -/
theorem test_worked_ties_and_average :
    reported Staging.default 513250 = 5132 ∧ reported Staging.default 513350 = 5134 ∧
      averageOf Staging.default 7 3600004 = some 5143 ∧ averageOf Staging.default 7 3599750 = some 5142 ∧
      averageOf { Staging.default with rounding := .up } 7 3599750 = some 5143 := by decide

/-! ### The limits of the score (section 5.11) -/

/-- The clamped fraction, the largest P, the floored score and the short standing lap. -/
theorem test_worked_limits :
    fractionOf Staging.default 1200000 { runner with lastCrossing := 0, bestLap := some 513207 } = 99 ∧
      penaltyHundredthsOf 4294967295 75000 = 5726624 ∧ scoreOf { runner with laps := 3 } 412 = 0 ∧
      scoreOf { runner with laps := 65535, fraction := some 99 } 0 = 6553599 ∧
      referenceLapOf Staging.default { runner with bestLap := none, lastLap := some 60000 } = 1000000 := by decide

/-! ### The settle of a freeze heat (section 5.9) -/

/-- A lane of the worked case. -/
def settler (laps last best penalty position : Nat) (dead : Bool) : LaneRecord :=
  { LaneRecord.fresh 0 .running position 10 with
    laps := laps
    lastCrossing := last
    keyCrossing := last
    bestLap := some best
    timePenalty := penalty
    deadHeat := dead }

/-- The heat of the worked case just before its settle event. -/
def settling : State :=
  let out := LaneRecord.fresh 0 .out 0 10
  { State.reset with
    heat := { Heat.reset with phase := .settling, raceClock := 30000100, expiryTime := some 30000000 }
    order := [.l5, .l3, .l7, .l8, .l1]
    lanes :=
      ⟨{ settler 30 15201000 497000 0 5 false with status := .stoodDown }, out, settler 57 29741234 513207 500000 2 false,
        out, settler 57 29812000 520000 0 1 false, out, settler 56 29600000 498000 0 3 true,
        settler 56 29737000 505000 0 4 true⟩ }

/-- Fractions, scores, order and dead-heat marks as the table shows. -/
theorem test_worked_settle :
    let t := after .settleEvent settling
    t.order = [.l5, .l7, .l8, .l3, .l1] ∧
      t.order.map (fun l => ((t.lane l).fraction, (t.lane l).score, (t.lane l).deadHeat)) =
        [(some 36, 5736, false), (some 80, 5680, false), (some 52, 5652, true), (some 50, 5652, true),
          (some 0, 3000, false)] ∧
      (t.lane .l3).penaltyHundredths = 98 ∧ t.heat.ending = some .settled := by decide +kernel

/-! ### A heat ends with penalties owed (section 7.10) -/

/-- Lane 5's channels just before the entry into ENDED. -/
def owing : State :=
  let e (tag : Tag) (seq : Nat) (kind : Kind) (amount progress : Nat) : Entry :=
    { entry tag seq kind with lane := .l5, amount := amount, progress := some progress }
  { settling with
    book := { State.reset.book with
      slots := [e .serving 21 .stopGo 10 3200, e .active 24 .stopGo 5 5000, e .active 22 .stopGo 8 8000,
        e .active 23 .powerCap 3 3, { entry .called 25 .stopGo with lane := .l3 }] ++ List.replicate 11 Entry.unused }
    channels := Lanes.set (Lanes.all Channels.empty) .l5 ⟨⟨[22, 24], some 21⟩, ⟨[23], none⟩⟩ }

/-- The entries close in the order of the table, TP of lane 5 becomes 1,300,000, and entry 25 stays CALLED. -/
theorem test_worked_conversions :
    let t := after .settleEvent owing
    t.book.closed = [0, 2, 1, 3] ∧ (t.lane .l5).timePenalty = 1300000 ∧
      (t.entry 0).outcomes = { truncated := true } ∧ (t.entry 2).outcomes = { converted := true } ∧
      (t.entry 3).outcomes = { unserved := true } ∧ (t.entry 4).tag = .called ∧
      (t.entry 1).closeTime = some 30000100 := by decide +kernel

/-! ### One step of the commands -/

/-- A MARSHAL port may not stage a heat (R181). -/
theorem test_marshal_may_not_stage :
    ((after (.stageHeat .p1) State.reset).ports.p1.response) = some ⟨.refused .role, 4, 0⟩ := by decide +kernel

/-- STAGE HEAT answers the number of lanes enabled (R45). -/
theorem test_stage_heat_answers_eight :
    ((after (.stageHeat .p0) State.reset).ports.p0.response) = some ⟨.done, 4, 8⟩ := by decide +kernel

/-- TRACK CALL in GREEN lights all five reds and answers HOLD, code 4 (R51, R53). -/
theorem test_track_call_in_green :
    let t := after (.trackCall .p1) (heat .green)
    t.phase = .hold ∧ t.heat.red = RedLamps.lit ∧ t.ports.p1.response = some ⟨.done, 7, 4⟩ := by decide +kernel

/-- A crossing one tick inside the lockout of 2 s is TOO_SOON, one at it is a lap (R21). -/
theorem test_lockout_boundary :
    ((after (.filteredLevelChange .l1 .line true 299999 0) (heat .green)).lane .l1).laps = 1 ∧
      ((after (.filteredLevelChange .l1 .line true 300000 0) (heat .green)).lane .l1).laps = 2 := by decide +kernel

/-- The queue's front command runs, the rest waits. -/
theorem test_step_takes_the_front :
    step { State.reset with pending := [.resetPin, .supplyLowEdge] } =
      exec .resetPin { State.reset with pending := [.supplyLowEdge] } := rfl

/-- No word spells a command: the table gives the rows no bits. -/
theorem test_no_word_spells_a_command : decodeTableWord 16 7 = none := rfl

/-! ### Witnesses: states and operands that meet the hypotheses of the obligations

Each theorem below names the obligation in its own name and shows, clause by clause, that concrete values meet the
hypotheses, at a boundary where the clause has a range. -/

/-- What holds of the eight lanes holds of every lane. -/
theorem forLane {P : Lane → Prop} (h : ∀ l ∈ Lane.all, P l) : ∀ l, P l := fun l => h l (by cases l <;> decide)

/-- A state whose port has been changed. -/
def onPort (p : Port) (f : PortState → PortState) (s : State) : State :=
  { s with ports := s.ports.set p (f (s.ports.get p)) }

/-- A state whose heat fields have been changed. -/
def onHeat (f : Heat → Heat) (s : State) : State := { s with heat := f s.heat }

/-- A state whose lane 1 has been changed. -/
def onLane (f : LaneRecord → LaneRecord) (s : State) : State := { s with lanes := s.lanes.set .l1 (f s.lanes.l1) }

/-- A state whose power record of lane 1 has been changed. -/
def onPower (f : PowerLane → PowerLane) (s : State) : State := { s with power := s.power.set .l1 (f s.power.l1) }

/-- A state whose exception records have been changed. -/
def onExc (f : Exceptions → Exceptions) (s : State) : State := { s with exceptions := f s.exceptions }

/-- A part whose port 1 is a DISPLAY port. -/
def display : State := after (.powerOn ⟨false, false, true, false, false⟩) State.reset

/-- A part in STAGED with every lane enabled and the defaults. -/
def grid : State := onPort .p0 (fun x => { x with receive := .waiting }) (after (.stageHeat .p0) State.reset)

/-- The number names an entry of the tag in a channel of the lane and kind. -/
def standing (s : State) (l : Lane) (kind : Kind) (tag : Tag) (q : Nat) : Bool :=
  match slotOf s.book q with
  | none => false
  | some k => decide (k < 16 ∧ (s.entry k).tag = tag ∧ (s.entry k).lane = l ∧ (s.entry k).kind = kind ∧
      (s.entry k).activationTime ≠ none ∧ (s.entry k).progress ≠ none)

theorem standing_slot {s : State} {l : Lane} {kind : Kind} {tag : Tag} {q : Nat} (h : standing s l kind tag q = true) :
    ∃ k < 16, slotOf s.book q = some k ∧ (s.entry k).tag = tag ∧ (s.entry k).lane = l ∧ (s.entry k).kind = kind ∧
      (s.entry k).activationTime ≠ none ∧ (s.entry k).progress ≠ none := by
  unfold standing at h
  split at h
  · cases h
  next k e => exact ⟨k, (of_decide_eq_true h).1, e, (of_decide_eq_true h).2⟩

/-- Book and channels agree where the finitely many checks below pass. -/
theorem agreeing {s : State}
    (h : ∀ l ∈ Lane.all, ∀ kind ∈ [Kind.stopGo, .powerCap],
      let c := if kind = .stopGo then (s.channels.get l).stop else (s.channels.get l).cap
      (∀ q ∈ c.waiting, standing s l kind .active q = true) ∧
      (∀ q ∈ c.serving.toList, standing s l kind .serving q = true) ∧
      c.waiting.Pairwise (fun a b =>
        activationOf s a < activationOf s b ∨ activationOf s a = activationOf s b ∧ a < b))
    (called : ∀ k < 16, (s.entry k).tag = .called → (s.entry k).kind = .stopGo ∨ (s.entry k).kind = .powerCap →
      (s.entry k).progress ≠ none)
    (opened : ∀ k < 16, (s.entry k).tag = .active ∨ (s.entry k).tag = .serving →
      ((s.entry k).kind = .stopGo ∨ (s.entry k).kind = .powerCap) ∧
      let c := s.channels.get (s.entry k).lane
      let x := if (s.entry k).kind = .stopGo then c.stop else c.cap
      ((s.entry k).tag = .active → (s.entry k).seq ∈ x.waiting) ∧
      ((s.entry k).tag = .serving → x.serving = some (s.entry k).seq))
    (closed : s.book.closed.Nodup ∧
      (∀ k ∈ s.book.closed, k < 16 ∧ ((s.entry k).tag = .served ∨ (s.entry k).tag = .waived)) ∧
      ∀ k < 16, (s.entry k).tag = .served ∨ (s.entry k).tag = .waived → k ∈ s.book.closed) : ChannelsAgree s := by
  refine ⟨fun l kind hk => ?_, called, opened, closed.1, fun k => ⟨closed.2.1 k, fun x => closed.2.2 k x.1 x.2⟩⟩
  have x := h l (by cases l <;> decide) kind (by cases hk with | inl e => rw [e]; decide | inr e => rw [e]; decide)
  exact ⟨fun q m => standing_slot (x.1 q m), fun q m => standing_slot (x.2.1 q (by rw [m]; exact .head _)), x.2.2⟩

/-- An entry of lane 1 that can be served, active since 300,000. -/
def owed (tag : Tag) (seq : Nat) (kind : Kind) (progress : Nat) : Entry :=
  { entry tag seq kind with activationTime := some 300000, progress := some progress }

/-- A state whose book holds the entries and whose lane 1 has the channels. -/
def serving (es : List Entry) (c : Channels) (s : State) : State :=
  { s with
    book := ⟨es ++ List.replicate (16 - es.length) Entry.unused, 40, 0, []⟩
    channels := Lanes.set (Lanes.all Channels.empty) .l1 c }

/-- A heat in which no lap finishes a lane. -/
theorem noFinish {s : State} {l : Lane} {c : Nat} (h : s.staging.heatMode = .timedFreeze) : ¬ FinishesAt s l c := by
  rintro ⟨_, ⟨x, _⟩ | ⟨x, _⟩⟩ <;> exact absurd (h.symm.trans x) (by decide)

/-- A crossing of lane 1 exactly the lockout of 2 s after its last passes the tests. -/
theorem passes {x : State}
    (a : x.pins.reset = false ∧ (x.detector .l1 .line).broken = false ∧ x.staging.edgeLine = .leading ∧
      (x.detector .l1 .line).state = .inService ∧ (x.lane .l1).status = .running ∧ (x.lane .l1).timingLost = false ∧
      (x.lane .l1).rebasePending = false ∧ (x.lane .l1).lastCrossing = 100000 ∧ x.staging.lockout = 200 ∧
      x.staging.sectorUse = .off ∧ (x.phase = .green ∨ x.phase = .hold ∨ x.phase = .resuming ∨ x.phase = .finishing)) :
    Crosses x .l1 .line true 300000 ∧ InPlay x .l1 ∧ TimingLine x .l1 .line ∧ TakesLap x 300000 ∧
      PassesTests x .l1 .line 300000 := by
  obtain ⟨a, b, c, d, e, f, g, h, i, j, k⟩ := a
  exact ⟨⟨a, fun x => absurd (b.symm.trans x) (by decide), by decide, .inl ⟨c, rfl⟩, d⟩, ⟨.inr e, f⟩, .inl rfl,
    ⟨by decide, .inl k⟩, ⟨g, .inr ⟨by rw [h]; decide, by simp [h, i], .inl (by rw [j]; decide)⟩⟩⟩

theorem witness_StepTakesFrontCommand :
    ({ State.reset with pending := [.resetPin, .supplyLowEdge] } : State).pending = .resetPin :: [.supplyLowEdge] := rfl

theorem witness_EveryCommandCompletes : State.reset.pending = [] := rfl

/-- 79th and 80th step of a tick, 99th and 100th tick of a millisecond, with one and two milliseconds of a stop-go left, HELD
and not. -/
theorem witness_IdleStepCountsTime :
    let s (n m : Nat) : State := { State.reset with clock := { Clock.reset with tickSteps := n, msTicks := m } }
    let g (ph : Phase) (left : Nat) : State :=
      { serving [owed .serving 7 .stopGo left] ⟨⟨[], some 7⟩, ⟨[], none⟩⟩ (heat ph) with
        clock := { Clock.reset with tickSteps := 79, msTicks := 99 } }
    ((s 78 0).pending = [] ∧ (s 78 0).pins.reset = false ∧ (s 78 0).clock.tickSteps + 1 < 80 ∧
        80 ≤ (s 79 98).clock.tickSteps + 1 ∧ (s 79 98).clock.msTicks + 1 < 100 ∧ 100 ≤ (s 79 99).clock.msTicks + 1) ∧
      (∀ ph ∈ [Phase.green, .hold], ∀ n ∈ [1, 2],
        (g ph n).pending = [] ∧ (g ph n).pins.reset = false ∧ 100 ≤ (g ph n).clock.msTicks + 1 ∧
          ((g ph n).channels.get .l1).stop.serving = some 7 ∧ slotOf (g ph n).book 7 = some 0 ∧
          ((g ph n).entry 0).progress = some n ∧ powerState (g ph n) .l1 = (if ph = .hold then .held else .cut)) ∧
      NumbersDiffer (g .green 2) ∧ ChannelsAgree (g .green 2) :=
  ⟨by decide, by decide +kernel, by unfold NumbersDiffer; and_intros <;> decide +kernel,
    agreeing (by decide +kernel) (by decide +kernel) (by decide +kernel) (by decide +kernel)⟩

/-- A tick that ends with the inputs not yet sampled; then with levels found as they were, changed at the start of a run and in
a run; overcurrent inputs with the drive off, asserted and deasserted; and a step inside a tick. -/
theorem witness_InputsAreSampled :
    let s (n : Nat) (sampled level : Bool) (run : Nat) : State :=
      { (heat .green).modDetector .l1 .line (fun d => { d with broken := true, runCount := run }) with
        clock := { Clock.reset with tickSteps := n, sampled := sampled }
        pins := { State.reset.pins with line := Lanes.all level, supplyLow := level } }
    let x (drive level found : Bool) : State :=
      onPower (fun y => { y with drive := drive, overcurrent := found })
        { s 79 true true 0 with pins := { State.reset.pins with overcurrent := Lanes.all level } }
    ((s 79 false true 0).pending = [] ∧ (s 79 false true 0).pins.reset = false ∧
        80 ≤ (s 79 false true 0).clock.tickSteps + 1 ∧ (s 79 false true 0).clock.sampled = false) ∧
      ((s 79 true true 3).clock.sampled = true ∧ (s 79 true true 3).pins.line.get .l1 = ((s 79 true true 3).detector .l1 .line).broken) ∧
      (∀ n ∈ [0, 3], (s 79 true false n).pins.line.get .l1 ≠ ((s 79 true false n).detector .l1 .line).broken ∧
        ((s 79 true false n).detector .l1 .line).runCount = n) ∧
      ((s 79 true true 3).pins.supplyLow ≠ (s 79 true true 3).supply.low ∧
        (s 79 true false 3).pins.supplyLow = (s 79 true false 3).supply.low) ∧
      (∀ d ∈ [true, false], ∀ o ∈ [true, false], ∀ f ∈ [true, false],
        ((x d o f).power.get .l1).drive = d ∧ (x d o f).pins.overcurrent.get .l1 = o ∧
          ((x d o f).power.get .l1).overcurrent = f) ∧
      (s 78 true true 0).clock.tickSteps + 1 < 80 := by decide +kernel

/-- Steps of time of a countdown and of a resume with k lamps out, one with a stop-go at its last millisecond, and the one
in which the race clock reaches T_e. -/
theorem witness_TimersJoinTheQueue :
    let c : State := at' 4000 (onHeat (fun h => { h with countdownStart := some 0, lampsLit := 4 }) (heat .countdown))
    let r : State := at' 2400 (onHeat (fun h => { h with resumeStart := some 0, red := ⟨false, false, false, true, true⟩ })
      (heat .resuming))
    let g : State :=
      { serving [owed .serving 7 .stopGo 1] ⟨⟨[], some 7⟩, ⟨[], none⟩⟩ (heat .green) with
        clock := { Clock.reset with tickSteps := 79, msTicks := 99 } }
    let e : State :=
      { onHeat (fun h => { h with expiryTime := some 500001 }) (heat .green) with
        clock := { Clock.reset with tickSteps := 79, msTicks := 3 } }
    (c.pending = [] ∧ c.pins.reset = false ∧ step c = .next (tick c) ∧ (tick c).heat.countdownStart = some 0 ∧
        (tick c).heat.phase = .countdown) ∧
      (r.pending = [] ∧ r.pins.reset = false ∧ step r = .next (tick r) ∧ (tick r).heat.resumeStart = some 0 ∧
        (tick r).heat.phase = .resuming ∧
        (tick r).heat.red = ⟨decide (3 < 1), decide (3 < 2), decide (3 < 3), decide (3 < 4), true⟩) ∧
      (g.pending = [] ∧ g.pins.reset = false ∧ (g.channels.get .l1).stop.serving = some 7 ∧ slotOf g.book 7 = some 0 ∧
        (g.entry 0).progress = some 1) ∧
      (e.pending = [] ∧ e.pins.reset = false ∧ Instr.heatTimeExpiryFreeze ∈ (tick e).pending) :=
  ⟨⟨rfl, rfl, rfl, by decide +kernel⟩, ⟨rfl, rfl, rfl, by decide +kernel⟩, ⟨rfl, rfl, by decide +kernel⟩, rfl, rfl,
    by decide +kernel⟩

theorem witness_ResetsRestartThePart :
    (after .resetPin State.reset).pins.reset = true ∧ (after .resetPin State.reset).pending = [] ∧
      ((∀ x, Instr.trackCall .p0 ≠ .powerOn x) ∧ Instr.trackCall .p0 ≠ .resetPin ∧
        ∀ x, Instr.trackCall .p0 ≠ .resetPinRelease x) ∧
      Ready State.reset .p0 ∧ State.reset.role .p0 = .control ∧
      (let s := after (.resetPartClear .p0) State.reset
       s.pins.reset = false ∧ s.pendingReset = some .clear ∧ (s.ports.get .p0).receive = .answering) :=
  ⟨rfl, rfl, ⟨fun _ h => (nomatch h), fun h => (nomatch h), fun _ h => (nomatch h)⟩, ⟨rfl, rfl⟩, rfl, by decide +kernel⟩

/-- KEEP taken in the race with suspects queued, in the race with entries of each kind and none queued, in STAGED and in
ENDED. -/
theorem witness_ResetPartKeep :
    let asked (ph : Phase) : State := after (.resetPartKeep .p0) { heat ph with queue := [suspect 1 .noSector] }
    let calm (ph : Phase) : State := after (.resetPartKeep .p0)
      (serving [owed .serving 21 .stopGo 5, owed .active 22 .stopGo 5, owed .called 23 .powerCap 5]
        ⟨⟨[22], some 21⟩, ⟨[], none⟩⟩ (heat ph))
    Ready (heat .green) .p0 ∧ (heat .green).role .p0 = .control ∧
      ((asked .green).pins.reset = false ∧ (asked .green).pendingReset = some .keep ∧
        (asked .green).queue.length = 1 ∧ ((asked .green).ports.get .p0).receive = .answering ∧
        ((asked .green).phase = .idle ∨ (asked .green).phase = .staged → (asked .green).queue = [])) ∧
      (∀ ph ∈ [Phase.green, .staged, .ended],
        (calm ph).pins.reset = false ∧ (calm ph).pendingReset = some .keep ∧ (calm ph).phase = ph ∧ (calm ph).queue = [] ∧
          ((calm ph).entry 0).tag = .serving ∧ ((calm ph).entry 1).tag = .active ∧ ((calm ph).entry 2).tag = .called ∧
          ((calm ph).entry 15).tag = .empty) ∧
      NumbersDiffer (calm .green) ∧ ChannelsAgree (calm .green) :=
  ⟨⟨rfl, rfl⟩, rfl, by decide +kernel, by decide +kernel, by unfold NumbersDiffer; and_intros <;> decide +kernel,
    agreeing (by decide +kernel) (by decide +kernel) (by decide +kernel) (by decide +kernel)⟩

/-- A CALL frame, and frames of DETECTOR RESTORE with the parameter 2 and of RESET PART with 0 and 3. -/
theorem witness_BytesSpellTheCommand :
    Ready State.reset .p0 ∧ frameCommand .p0 ⟨11, 3, 2, 5, 235⟩ = some (.call .p0 3 2 5) ∧
      (Instr.call .p0 3 2 5).wellFormed = true ∧
      commandFrame (.call .p0 3 2 5) = some (.p0, ⟨11, 3, 2, 5, 235⟩) ∧
      ((19 : Byte) + 1 + 0 + 2 + 234 = 0 ∧ 2 ≤ (0 : Byte).toNat * 256 + (2 : Byte).toNat) ∧
      ((27 : Byte) + 0 + 0 + 0 + 229 = 0 ∧ (0 : Byte).toNat * 256 + (0 : Byte).toNat ∉ [1, 2]) ∧
      ((27 : Byte) + 0 + 0 + 3 + 226 = 0 ∧ (0 : Byte).toNat * 256 + (3 : Byte).toNat ∉ [1, 2]) := ⟨⟨rfl, rfl⟩, by decide⟩

/-- A sum of 255, the codes 0 and 29, STAGE HEAT at a MARSHAL port and CALL at a DISPLAY port. -/
theorem witness_BadFramesAndRolesRefused :
    Ready State.reset .p1 ∧ Ready display .p1 ∧ (11 : Byte) + 3 + 2 + 5 + 234 ≠ 0 ∧ 29 ≤ (29 : Byte).toNat ∧
      commandFrame (.stageHeat .p1) = some (.p1, ⟨4, 0, 0, 0, 252⟩) ∧ State.reset.role .p1 = .marshal ∧
      (4 : Byte).toNat ∉ [1, 2, 7, 11, 14, 23, 24, 25, 26, 28] ∧
      commandFrame (.call .p1 1 1 5) = some (.p1, ⟨11, 1, 1, 5, 238⟩) ∧ display.role .p1 = .display ∧
      (11 : Byte).toNat ∉ [1, 2, 23, 24, 25, 26, 28] ∧ (∀ g, Instr.call .p1 1 1 5 ≠ .frameCheck .p1 g) ∧
      (∀ code, Instr.call .p1 1 1 5 ≠ .unknownRequest .p1 code) :=
  ⟨⟨rfl, rfl⟩, ⟨rfl, rfl⟩, by decide, by decide, by decide, by decide, by decide, by decide, by decide, by decide,
    fun _ h => (nomatch h), fun _ h => (nomatch h)⟩

/-- A book of sixteen open entries. -/
def full : State :=
  { heat .green with
    book := ⟨(List.range 16).map fun n => { entry .active (n + 1) .powerCap with progress := some 5 }, 17, 0, []⟩ }

/-- A refusal by role, and the one refusal that also raises an exception. -/
theorem witness_RefusalChangesNothing :
    (let t := after (.stageHeat .p1) State.reset
     Ready State.reset .p1 ∧ exec (.stageHeat .p1) State.reset = .next t ∧
       (Instr.stageHeat .p1).wellFormed = true ∧ commandFrame (.stageHeat .p1) = some (.p1, ⟨4, 0, 0, 0, 252⟩) ∧
       (t.ports.get .p1).response = some ⟨.refused .role, 4, 0⟩) ∧
      (let t := after (.call .p0 1 1 5) full
       Ready full .p0 ∧ exec (.call .p0 1 1 5) full = .next t ∧ (Instr.call .p0 1 1 5).wellFormed = true ∧
         commandFrame (.call .p0 1 1 5) = some (.p0, ⟨11, 1, 1, 5, 238⟩) ∧
         (t.ports.get .p0).response = some ⟨.refused .bookFull, 11, 0⟩) :=
  ⟨⟨⟨rfl, rfl⟩, rfl, by decide +kernel⟩, ⟨⟨rfl, rfl⟩, rfl, by decide +kernel⟩⟩

/-- A port in a receive state, its last byte at 0, at a station time. -/
def receiving (r : Receive) (now : StationTime) : State :=
  at' now (onPort .p0 (fun x => { x with receive := r, lastByte := some 0 }) State.reset)

theorem shortGap (r : Receive) : ¬ LongGap (receiving r 5) .p0 := by
  intro ⟨t, h, g⟩
  cases h
  exact absurd (show 6 ≤ elapsed 5 0 from g) (by decide)

theorem longGap (r : Receive) : LongGap (receiving r 6) .p0 := ⟨0, rfl, show 6 ≤ elapsed 6 0 by decide⟩

/-- Gaps of 5 and 6 ms, three bytes held. -/
theorem witness_BytesAndLineErrors_bytes :
    (receiving .waiting 5).pins.reset = false ∧ ((receiving .waiting 5).ports.get .p0).receive = .waiting ∧
      (((receiving (.receiving [1, 2, 3]) 5).ports.get .p0).receive = .receiving [1, 2, 3] ∧ [1, 2, 3].length < 4 ∧
        ¬ LongGap (receiving (.receiving [1, 2, 3]) 5) .p0) ∧
      LongGap (receiving (.receiving [1]) 6) .p0 ∧
      ((receiving .answering 5).ports.get .p0).receive = .answering ∧
      (((receiving .discarding 5).ports.get .p0).receive = .discarding ∧ ¬ LongGap (receiving .discarding 5) .p0) ∧
      LongGap (receiving .discarding 6) .p0 :=
  ⟨rfl, rfl, ⟨rfl, by decide, shortGap _⟩, longGap _, rfl, ⟨rfl, shortGap _⟩, longGap _⟩

theorem witness_BytesAndLineErrors_lines :
    (receiving .waiting 5).pins.reset = false ∧ ((receiving .waiting 5).ports.get .p0).receive = .waiting ∧
      LongGap (receiving (.receiving [1]) 6) .p0 ∧ LongGap (receiving .discarding 6) .p0 ∧
      ((receiving .answering 5).ports.get .p0).receive = .answering ∧ (receiving .answering 5).pendingReset = none :=
  ⟨rfl, rfl, longGap _, longGap _, rfl, rfl⟩

theorem witness_PortsActApart_others :
    commandPort (.call .p0 1 1 5) = some .p0 ∧ Port.p1 ≠ .p0 ∧
      (∀ r, Instr.call .p0 1 1 5 = .responseSent r → (heat .green).pendingReset = none) ∧
      exec (.call .p0 1 1 5) (heat .green) = .next (after (.call .p0 1 1 5) (heat .green)) :=
  ⟨rfl, by decide, fun _ _ => rfl, rfl⟩

theorem witness_PortsActApart_display :
    commandPort (.call .p1 1 1 5) = some .p1 ∧ display.role .p1 = .display ∧
      exec (.call .p1 1 1 5) display = .next (after (.call .p1 1 1 5) display) := ⟨rfl, by decide, rfl⟩

/-- The last word of the last book record in STEP mode, entry 7 and suspect 3 by number, mode 3, record 16, word 21, a
number not held, and a space that does not exist. -/
theorem witness_WindowReadsRecords_point :
    let s : State := { holding (entry .active 7 .stopGo) (heat .green) with queue := [suspect 3 .tooSoon] }
    Ready s .p0 ∧
      ((25 : Byte).toNat = Space.book.code + 16 * Mode.step.code ∧ (3860 : Word).toNat = 256 * 15 + 20 ∧
        15 < Space.book.recordCount ∧ 20 < Space.book.wordCount) ∧
      ((89 : Byte).toNat = Space.book.code + 16 * Mode.step.code + 64 ∧ slotOf s.book (7 : Word).toNat = some 0) ∧
      ((91 : Byte).toNat = Space.adjudication.code + 16 * Mode.step.code + 64 ∧
        s.queue.findIdx? (fun x => x.seq == (3 : Word).toNat) = some 0) ∧
      (57 : Byte).toNat / 16 % 4 = 3 ∧
      ((4096 : Word).toNat = 256 * 16 + 0 ∧ Space.book.recordCount ≤ 16) ∧
      ((21 : Word).toNat = 256 * 0 + 21 ∧ Space.book.wordCount ≤ 21) ∧
      slotOf s.book (8 : Word).toNat = none ∧ (∀ x ∈ s.queue, x.seq ≠ (4 : Word).toNat) ∧
      (Space.lanes ≠ .book ∧ Space.lanes ≠ .adjudication) ∧
      (128 ≤ (128 : Byte).toNat ∧ (128 : Byte).toNat / 16 % 4 ≠ 3) := ⟨⟨rfl, rfl⟩, by decide +kernel⟩

/-- A port pointed at a word, its snapshot of 64 zeros. -/
def pointed (x : Window) (s : State) : State :=
  onPort .p0 (fun y => { y with window := some x, snapshot := some ⟨List.replicate 64 0, 0, 0⟩ }) s

/-- The last word but one of a lane record, the last word of a record, and the last word of the last record. -/
theorem witness_WindowReadsRecords_read :
    let s (k w : Nat) (m : Mode) : State := pointed ⟨.lanes, k, w, m⟩ (heat .green)
    (Ready (s 0 0 .steady) .p0 ∧ (Mode.steady ≠ .step) ∧ ((s 0 0 .steady).ports.get .p0).snapshot ≠ none) ∧
      (Ready (s 6 52 .step) .p0 ∧ 52 + 1 < Space.lanes.wordCount) ∧
      (Ready (s 6 53 .step) .p0 ∧ Space.lanes.wordCount ≤ 53 + 1 ∧ 6 + 1 < Space.lanes.recordCount) ∧
      (Ready (s 7 53 .step) .p0 ∧ ¬ 7 + 1 < Space.lanes.recordCount) ∧
      (Ready State.reset .p0 ∧ (State.reset.ports.get .p0).window = none) :=
  ⟨⟨⟨rfl, rfl⟩, by decide, by decide⟩, ⟨⟨rfl, rfl⟩, by decide⟩, ⟨⟨rfl, rfl⟩, by decide⟩, ⟨⟨rfl, rfl⟩, by decide⟩,
    ⟨⟨rfl, rfl⟩, rfl⟩⟩

/-- The last writable word in IDLE, words 3, 1, 12 and 15 in STAGED, word 0 in STAGED and word 14 in GREEN, word 38, a lane
record, and no window. -/
theorem witness_WriteStoresStagingField :
    let x (w : Nat) : Window := ⟨.staging, 0, w, .step⟩
    (Ready (pointed (x 37) State.reset) .p0 ∧ (pointed (x 37) State.reset).role .p0 = .control ∧
        stagingFields[(x 37).word]? = some .stuckLimit ∧ (pointed (x 37) State.reset).phase = .idle) ∧
      (Ready (pointed (x 3) grid) .p0 ∧ stagingFields[(x 3).word]? = some .grace ∧ (pointed (x 3) grid).phase = .staged) ∧
      stagingFields[(x 1).word]? = some .heatTime ∧ stagingFields[(x 12).word]? = some (.driverTag .l8) ∧
      stagingFields[(x 0).word]? = some .heatMode ∧ stagingFields[(x 15).word]? = some .nominalLap ∧
      (grid.staging.lanesEnabled.get .l1 = true ∧ (grid.lane .l1).bestLap = none ∧ (grid.lane .l1).lastLap = none ∧
        (staged (fun st => { st with lanesEnabled := st.lanesEnabled.set .l8 false }) grid).staging.lanesEnabled.get .l8 =
          false) ∧
      ((heat .green).phase ≠ .idle ∧ (heat .green).phase ≠ .staged ∧ stagingFields[(x 14).word]? = some .lockout) ∧
      (38 ≤ (x 38).word ∧ Space.lanes ≠ .staging ∧ (State.reset.ports.get .p0).window = none) :=
  ⟨⟨⟨rfl, rfl⟩, by decide⟩, ⟨⟨rfl, rfl⟩, by decide +kernel⟩, by decide +kernel⟩

theorem witness_WrittenValuesAreClamped : 2 ≤ (2 : Word).toNat ∧ 3 ≤ (3 : Word).toNat ∧ 1 ≤ (1 : Word).toNat := by decide

/-- A lane with one lap in its history and a queue of one suspect; the second places of both are empty. -/
theorem witness_RecordsFollowTheirLayouts :
    let lap : Lap := ⟨1, 100000, some 100000, none, {}⟩
    let s : State := { onLane (fun r => { r with history := [lap] }) (heat .green) with queue := [suspect 1 .tooSoon] }
    ((s.lane .l1).history[0]? = some lap ∧ (s.lane .l1).history[1]? = none) ∧
      s.queue[0]? = some (suspect 1 .tooSoon) ∧ s.queue[1]? = none := by decide

theorem witness_AlertsCountersAndIdentify :
    Ready State.reset .p3 ∧ (4 : Word).toNat = CounterClass.merges.code ∧ 5 ≤ (5 : Word).toNat := ⟨⟨rfl, rfl⟩, by decide⟩

theorem witness_HeatsAreStagedAndCleared :
    let bare : State := staged (fun st => { st with lanesEnabled := Lanes.all false }) State.reset
    (Ready State.reset .p0 ∧ State.reset.role .p0 = .control ∧ State.reset.phase = .idle ∧
        Lane.all.filter (fun l => State.reset.staging.lanesEnabled.get l) ≠ []) ∧
      (Ready bare .p0 ∧ bare.phase = .idle ∧ Lane.all.filter (fun l => bare.staging.lanesEnabled.get l) = []) ∧
      (Ready grid .p0 ∧ grid.role .p0 = .control ∧ grid.phase = .staged) ∧
      (Ready (heat .ended) .p0 ∧ (heat .ended).phase = .ended) :=
  ⟨⟨⟨rfl, rfl⟩, by decide⟩, ⟨⟨rfl, rfl⟩, by decide⟩, ⟨⟨rfl, rfl⟩, by decide +kernel⟩, ⟨rfl, rfl⟩, rfl⟩

/-- A countdown that began at station time 0, with a number of lamps lit. -/
def counting (lit : Nat) (now : StationTime) : State :=
  at' now (onHeat (fun h => { h with phase := .countdown, countdownStart := some 0, lampsLit := lit }) grid)

/-- The fifth lamp at 4,000 ms and 1 ms before. -/
theorem witness_CountdownEndsInTheRace_lamps :
    (Ready grid .p0 ∧ grid.role .p0 = .control ∧ grid.phase = .staged) ∧
      (Ready (counting 4 4000) .p0 ∧ (counting 4 4000).role .p0 = .control) ∧
      ((counting 4 4000).pins.reset = false ∧ (counting 4 4000).phase = .countdown ∧
        (counting 4 4000).heat.countdownStart = some 0 ∧ (counting 4 4000).heat.lampsLit < 5 ∧
        (counting 4 4000).heat.lampsLit * 1000 ≤ elapsed (counting 4 4000).now 0) ∧
      elapsed (counting 4 3999).now 0 < (counting 4 3999).heat.lampsLit * 1000 :=
  ⟨⟨⟨rfl, rfl⟩, by decide +kernel⟩, ⟨⟨rfl, rfl⟩, by decide +kernel⟩, by decide +kernel, by decide +kernel⟩

/-- Green delay 500 ms: the green event at 5,500 ms, with lanes on the grid and with every lane stood down. -/
theorem witness_CountdownEndsInTheRace_green :
    let s : State := counting 5 5500
    let none' : State := { s with lanes := Lanes.all { runner with status := .stoodDown } }
    (s.pins.reset = false ∧ s.phase = .countdown ∧ s.heat.countdownStart = some 0 ∧
        5000 + s.staging.greenDelay ≤ elapsed s.now 0 ∧ (s.lane .l1).status = .grid) ∧
      (∀ l, (none'.lane l).status ≠ .grid ∧ (none'.lane l).status ≠ .running) :=
  ⟨by decide +kernel, forLane (by decide +kernel)⟩

theorem witness_TrackCallsHoldAndResume_calls :
    ∀ ph, Ready (heat ph) .p1 ∧ (heat ph).role .p1 ≠ .display ∧ (heat ph).phase = ph :=
  fun ph => ⟨⟨rfl, rfl⟩, by cases ph <;> decide, rfl⟩

/-- A resume that began at station time 0, a countdown of 3 s, with the first k lamps out. -/
def resuming (target : ResumeTarget) (red : RedLamps) (now : StationTime) : State :=
  at' now (onHeat (fun h => { h with resumeTarget := some target, resumeStart := some 0, red := red }) (heat .resuming))

/-- The fourth lamp at 2,400 ms, the fifth at 3,000 ms. -/
theorem witness_TrackCallsHoldAndResume_resumes :
    let held (n : Nat) (x : ResumeTarget) : State :=
      staged (fun st => { st with resumeCountdown := n }) (onHeat (fun h => { h with resumeTarget := some x }) (heat .hold))
    let s := resuming .green ⟨false, false, false, true, true⟩ 2400
    (Ready (held 3 .green) .p0 ∧ (held 3 .green).role .p0 = .control ∧ (held 3 .green).phase = .hold ∧
        (held 3 .green).staging.resumeCountdown ≠ 0) ∧
      (Ready (held 0 .green) .p0 ∧ (held 0 .green).staging.resumeCountdown = 0 ∧
        (held 0 .green).heat.resumeTarget = some .green ∧ (held 0 .finishing).heat.resumeTarget = some .finishing) ∧
      (s.pins.reset = false ∧ s.phase = .resuming ∧ s.heat.resumeStart = some 0 ∧
        s.heat.red = ⟨decide (3 < 1), decide (3 < 2), decide (3 < 3), decide (3 < 4), true⟩ ∧
        (3 + 1) * s.staging.resumeCountdown * 200 ≤ elapsed s.now 0) ∧
      5 * s.staging.resumeCountdown * 200 ≤ elapsed (resuming .finishing s.heat.red 3000).now 0 :=
  ⟨⟨⟨rfl, rfl⟩, by decide⟩, ⟨⟨rfl, rfl⟩, by decide⟩, by decide, by decide⟩

theorem witness_HeatTimeExpires :
    let s (m : HeatMode) (x : ClockPolicy) (ph : Phase) : State :=
      staged (fun st => { st with heatMode := m, clockUnderCall := x })
        (onHeat (fun h => { h with raceClock := 30000000 }) (heat ph))
    (∀ m x ph, (s m x ph).pins.reset = false ∧ (s m x ph).heat.expiryTime = some 30000000 ∧
        30000000 ≤ (s m x ph).heat.raceClock ∧ (s m x ph).heat.finishReference = none ∧
        (s m x ph).staging.heatMode = m ∧ (s m x ph).staging.clockUnderCall = x ∧ (s m x ph).phase = ph) :=
  fun _ _ _ => ⟨rfl, rfl, Nat.le_refl _, rfl, rfl, rfl, rfl⟩

/-- Grace of 60 s run out to the millisecond, the settle event at T_e + 100, the clock at its cap, END HEAT in SETTLING. -/
theorem witness_HeatEnds :
    EndsHeat (at' 60000 (onHeat (fun h => { h with finishingStart := some 0 }) (heat .finishing))) .graceRunOut .grace ∧
      EndsHeat settling .settleEvent .settled ∧
      EndsHeat (onHeat (fun h => { h with raceClock := 3960000000 }) (heat .green)) .clockCap .cappedClock ∧
      EndsHeat settling (.endHeat .p0) .aborted ∧ settling.order.Nodup ∧
      (∀ k < 16, ∀ l ∈ Lane.all, k ∉ channelSlots settling l) ∧
      (Ready (heat .countdown) .p0 ∧ (heat .countdown).role .p0 = .control ∧ (heat .countdown).phase = .countdown) :=
  ⟨⟨rfl, .inl ⟨rfl, rfl, .inl rfl, 0, rfl, by decide⟩⟩, ⟨rfl, .inr (.inl ⟨rfl, rfl, rfl, 30000000, rfl, by decide⟩)⟩,
    ⟨rfl, .inr (.inr (.inl ⟨rfl, rfl, by decide, .inl rfl⟩))⟩,
    ⟨rfl, .inr (.inr (.inr ⟨⟨.p0, rfl, ⟨rfl, rfl⟩, rfl⟩, rfl, .inr (.inr (.inr (.inr rfl)))⟩))⟩, by decide, by decide,
    ⟨rfl, rfl⟩, rfl, rfl⟩

/-- A running lane with a best lap, with a last lap of exactly the lockout and a shorter one, with none, and on the grid; one
FINISHED, one stood down and one OUT. -/
theorem witness_SettleComputesFractions :
    let s (f : LaneRecord → LaneRecord) : State := onLane f { settling with lanes := Lanes.all runner }
    settling.pins.reset = false ∧ settling.phase = .settling ∧ settling.heat.expiryTime = some 30000000 ∧
      30000000 + 100 ≤ settling.heat.raceClock ∧ (settling.lane .l3).status = .running ∧
      (settling.lane .l3).bestLap = some 513207 ∧ (settling.lane .l1).status = .stoodDown ∧
      (settling.lane .l2).status = .out ∧
      (∀ n ∈ [199999, 200000], ∀ x ∈ [LaneStatus.grid, .running, .finished],
        let t := s fun r => { r with status := x, lastLap := some n }
        t.phase = .settling ∧ t.heat.expiryTime = some 30000000 ∧ (t.lane .l1).status = x ∧ (t.lane .l1).bestLap = none ∧
          (t.lane .l1).lastLap = some n ∧ t.staging.lockout * 1000 = 200000) ∧
      ((s fun r => { r with lastLap := none }).lane .l1).lastLap = none := by decide

theorem witness_LampsFlash :
    let s := at' 250 (heat .finishing)
    let lamp (c : LampCondition) (now : StationTime) : State :=
      at' now { heat .green with lamps := Lanes.all ⟨c, true, 0⟩ }
    (s.pins.reset = false ∧ s.phase = .finishing ∧ 250 ≤ elapsed s.now s.heat.greenToggled) ∧
      (∀ x ∈ [(LampCondition.flash1, 500), (.flash2, 250), (.flash4, 125)],
        ((lamp x.1 (BitVec.ofNat 32 x.2)).lamps.get .l8).condition = x.1 ∧
          x.2 ≤ elapsed (lamp x.1 (BitVec.ofNat 32 x.2)).now ((lamp x.1 (BitVec.ofNat 32 x.2)).lamps.get .l8).toggled) := by
  decide

/-- A line crossing of lane 1 in a state whose line beam is whole. -/
theorem crosses {s : State} {c : Nat} (h : s.pins.reset = false ∧ (s.detector .l1 .line).broken = false ∧
    c ≤ 3960000000 ∧ s.staging.edgeLine = .leading ∧ (s.detector .l1 .line).state = .inService) :
    Crosses s .l1 .line true c :=
  ⟨h.1, fun x => absurd (h.2.1.symm.trans x) (by decide), h.2.2.1, .inl ⟨h.2.2.2.1, rfl⟩, h.2.2.2.2⟩

/-- The same of the sector beam. -/
theorem crossesSector {s : State} {c : Nat} (h : s.pins.reset = false ∧ (s.detector .l1 .sector).broken = false ∧
    c ≤ 3960000000 ∧ s.staging.edgeSector = .leading ∧ (s.detector .l1 .sector).state = .inService) :
    Crosses s .l1 .sector true c :=
  ⟨h.1, fun x => absurd (h.2.1.symm.trans x) (by decide), h.2.2.1, .inl ⟨h.2.2.2.1, rfl⟩, h.2.2.2.2⟩

/-- A restored beam, which is no crossing edge; a crossing at the clock's cap in ENDED, and of a finished, a stood-down and an
untimed lane; a level that is already the filtered one. -/
theorem witness_LevelChangesAreFiltered :
    let broken : State := (heat .green).modDetector .l1 .line fun d => { d with broken := true }
    let s (x : LaneStatus) (b : Bool) : State := onLane (fun r => { r with status := x, timingLost := b }) (heat .green)
    (broken.pins.reset = false ∧ (broken.detector .l1 .line).broken ≠ false ∧ ¬ CrossingEdge broken .line false) ∧
      (broken.detector .l1 .line).broken = true ∧
      Crosses (heat .ended) .l1 .line true 3960000000 ∧
      (Crosses (s .finished false) .l1 .line true 1 ∧ ((s .finished false).lane .l1).status = .finished) ∧
      (Crosses (s .stoodDown false) .l1 .line true 1 ∧ ((s .stoodDown false).lane .l1).status = .stoodDown) ∧
      (Crosses (s .running true) .l1 .line true 1 ∧ ((s .running true).lane .l1).timingLost = true) :=
  ⟨⟨rfl, by decide, fun h => h.elim (fun h => (nomatch h.2)) (fun h => (nomatch h.1))⟩, rfl, crosses (by decide),
    ⟨crosses (by decide), rfl⟩, ⟨crosses (by decide), rfl⟩, ⟨crosses (by decide), rfl⟩⟩

/-- The second lap exactly the lockout after the first crossing, the 65,535th lap, and a lane's first crossing; a lap short of
the target, and one a tick before the finish reference of a TIMED_RUN_TO_LINE heat. -/
theorem witness_ValidLapIsRecorded :
    let s : State := heat .green
    let top : State := onLane (fun r => { r with laps := 65534 }) s
    let first : State := { s with contexts := Lanes.all ⟨false, none, false, false, false⟩ }
    let target : State := staged (fun st => { st with heatMode := .lapTarget, lapTarget := 3 }) s
    let line : State := staged (fun st => { st with heatMode := .timedRunToLine })
      (onHeat (fun h => { h with finishReference := some 300001 }) (heat .finishing))
    let fits (x : State) : Prop :=
      (Crosses x .l1 .line true 300000 ∧ InPlay x .l1 ∧ TimingLine x .l1 .line ∧ TakesLap x 300000 ∧
        PassesTests x .l1 .line 300000) ∧ ¬ FinishesAt x .l1 300000 ∧ (x.lane .l1).laps < 65535
    fits s ∧ fits top ∧ fits target ∧ fits line ∧
      (Crosses first .l1 .line true 1 ∧ TakesLap first 1 ∧ PassesTests first .l1 .line 1 ∧ ¬ FinishesAt first .l1 1) := by
  refine ⟨⟨passes (by decide), noFinish rfl, by decide⟩, ⟨passes (by decide), noFinish rfl, by decide⟩,
    ⟨passes (by decide), ?_, by decide⟩, ⟨passes (by decide), ?_, by decide⟩,
    ⟨crosses (by decide), ⟨by decide, .inl (.inl rfl)⟩, ⟨rfl, .inl rfl⟩, noFinish rfl⟩⟩
  · rintro ⟨_, ⟨_, h | ⟨f, h, _⟩⟩ | ⟨h, _⟩⟩
    · exact absurd h (by decide)
    · cases h
    · cases h
  · rintro ⟨_, ⟨h, _⟩ | ⟨_, f, h, g⟩⟩
    · cases h
    · cases h
      exact absurd g (by decide)

/-- The lap that reaches the target, one captured a tick after the finish reference of a LAP_TARGET heat, one captured at
that of a TIMED_RUN_TO_LINE heat; with and without another lane RUNNING; with L at 65,535. -/
theorem witness_LapsFinishTheLane :
    let s (m : HeatMode) (ph : Phase) (target : Nat) (f : Option Nat) : State :=
      staged (fun st => { st with heatMode := m, lapTarget := target })
        (onHeat (fun h => { h with finishReference := f }) (heat ph))
    let alone : State := { s .lapTarget .green 2 none with
      lanes := Lanes.set (Lanes.all { runner with status := .finished }) .l1 runner }
    let top : State := onLane (fun r => { r with laps := 65535 }) (s .lapTarget .green 2 none)
    let fits (x : State) : Prop :=
      (Crosses x .l1 .line true 300000 ∧ InPlay x .l1 ∧ TimingLine x .l1 .line ∧ TakesLap x 300000 ∧
        PassesTests x .l1 .line 300000) ∧
        (x.lane .l1).status = .running ∧ (x.lane .l1).timingLost = false ∧ x.phase ≠ .settling
    (fits (s .lapTarget .green 2 none) ∧ ((2 : Nat) : Int) ≤ (min 65535 (1 + 1) : Nat) - ((0 : Nat) : Int)) ∧ fits (s .lapTarget .hold 2 none) ∧
      (fits (s .lapTarget .finishing 50 (some 299999)) ∧ 299999 < 300000) ∧
      (fits (s .timedRunToLine .finishing 50 (some 300000)) ∧ 300000 ≤ 300000) ∧
      ((s .lapTarget .green 2 none).lane .l2).status = .running ∧
      (fits alone ∧ ∀ m, m ≠ .l1 → (alone.lane m).status ≠ .running) ∧
      (fits top ∧ (top.lane .l1).laps = 65535 ∧ top.exceptions.saturation.flag = false) :=
  ⟨⟨⟨passes (by decide), by decide⟩, by decide⟩, ⟨passes (by decide), by decide⟩, ⟨⟨passes (by decide), by decide⟩, by decide⟩,
    ⟨⟨passes (by decide), by decide⟩, by decide⟩, rfl, ⟨⟨passes (by decide), by decide⟩, forLane (by decide)⟩,
    ⟨passes (by decide +kernel), by decide +kernel⟩, by decide +kernel⟩

/-- A crossing captured at the activation of the waiting entry and one a tick before it, of either kind, and one with a
stop-go serving; a cap with two laps and with one lap left. -/
theorem witness_CrossingServesPenalties :
    let stop (a : Nat) : State :=
      serving [{ owed .active 7 .stopGo 5000 with activationTime := some a }] ⟨⟨[7], none⟩, ⟨[], none⟩⟩ (heat .green)
    let cap (a : Nat) : State :=
      serving [{ owed .active 7 .powerCap 5 with activationTime := some a }] ⟨⟨[], none⟩, ⟨[7], none⟩⟩ (heat .green)
    let both (n : Nat) : State :=
      serving [owed .serving 7 .powerCap n, owed .serving 8 .stopGo 5000] ⟨⟨[], some 8⟩, ⟨[], some 7⟩⟩ (heat .green)
    let fits (x : State) : Prop :=
      (Crosses x .l1 .line true 300000 ∧ InPlay x .l1 ∧ TimingLine x .l1 .line ∧ TakesLap x 300000 ∧
        PassesTests x .l1 .line 300000) ∧ ¬ FinishesAt x .l1 300000 ∧ NumbersDiffer x ∧ ChannelsAgree x
    (∀ a ∈ [300000, 300001],
        (stop a).channels.get .l1 = ⟨⟨7 :: [], none⟩, ⟨[], none⟩⟩ ∧ slotOf (stop a).book 7 = some 0 ∧
          ((stop a).entry 0).activationTime = some a ∧ (cap a).channels.get .l1 = ⟨⟨[], none⟩, ⟨7 :: [], none⟩⟩ ∧
          slotOf (cap a).book 7 = some 0 ∧ ((cap a).entry 0).activationTime = some a) ∧
      (∀ n ∈ [1, 2], (both n).channels.get .l1 = ⟨⟨[], some 8⟩, ⟨[], some 7⟩⟩ ∧ slotOf (both n).book 7 = some 0 ∧
        ((both n).entry 0).progress = some n) ∧
      fits (stop 300000) ∧ fits (cap 300000) ∧ fits (both 1) := by
  refine ⟨by decide +kernel, by decide +kernel, ⟨passes (by decide), noFinish rfl, ?_, ?_⟩,
    ⟨passes (by decide), noFinish rfl, ?_, ?_⟩, ⟨passes (by decide), noFinish rfl, ?_, ?_⟩⟩ <;>
  first
  | exact agreeing (by decide +kernel) (by decide +kernel) (by decide +kernel) (by decide +kernel)
  | unfold NumbersDiffer; and_intros <;> decide +kernel

/-- A tick inside the lockout; the lockout exactly with no sector crossing; seven and eight suspects queued; five and six
counted with DETECTOR clear and masked, the sector detector IN_SERVICE and OUT; the last sequence number; SUSPECT unmasked and
masked. -/
theorem witness_SuspectsAreQueued :
    let s (n count : Nat) (masked det : Bool) (other : DetState) : State :=
      onExc (fun e => { e with
          suspect := { e.suspect with mask := masked }, detector := { e.detector with mask := det } })
        { ((staged (fun st => { st with sectorUse := .confirm }) (heat .green)).modDetector .l1 .line
            (fun d => { d with suspectCount := count })).modDetector .l1 .sector (fun d => { d with state := other }) with
          queue := (List.range n).map fun k => suspect (k + 1) .tooSoon
          queueSeq := 65535 }
    (∀ n ∈ [0, 7, 8], ∀ count ∈ [5, 6, 7], ∀ masked ∈ [true, false], ∀ det ∈ [true, false],
        ∀ other ∈ [DetState.inService, .out],
        let x := s n count masked det other
        (x.lane .l1).rebasePending = false ∧ (x.contexts.get .l1).referenceSet = true ∧ 1 ≤ x.queueSeq ∧
          x.queueSeq ≤ 65535 ∧ (x.detector .l1 .line).suspectCount = count ∧ x.exceptions.suspect.mask = masked ∧
          x.exceptions.detector.mask = det ∧ x.queue.length = n ∧ (x.detector .l1 .sector).state = other) ∧
      (let x := s 7 5 false false .inService
       (Crosses x .l1 .line true 299999 ∧ InPlay x .l1 ∧ TimingLine x .l1 .line ∧ TakesLap x 299999 ∧
          299999 - (x.lane .l1).lastCrossing < x.staging.lockout * 1000) ∧
         (Crosses x .l1 .line true 300000 ∧ TakesLap x 300000 ∧ (x.lane .l1).lastCrossing ≤ 300000 ∧
          x.staging.lockout * 1000 ≤ 300000 - (x.lane .l1).lastCrossing ∧ x.staging.sectorUse = .confirm ∧
          (x.detector .l1 .sector).state = .inService ∧ (x.detector .l1 .sector).promoted = false ∧
          (x.contexts.get .l1).sectorMark = none)) ∧
      (let x := s 8 6 true true .inService
       Crosses x .l1 .line true 300000 ∧ InPlay x .l1 ∧ (x.lane .l1).lastCrossing < 300000 ∧ (x.lane .l1).laps < 65535 ∧
         ¬ FinishesAt x .l1 300000 ∧ ((onLane (fun r => { r with laps := 65535 }) x).lane .l1).laps = 65535) :=
  ⟨by decide +kernel,
    ⟨⟨crosses (by decide), ⟨.inr rfl, rfl⟩, .inl rfl, ⟨by decide, .inl (.inl rfl)⟩, by decide⟩,
      crosses (by decide), ⟨by decide, .inl (.inl rfl)⟩, by decide⟩,
    crosses (by decide), ⟨.inr rfl, rfl⟩, by decide, by decide, noFinish rfl, rfl⟩

/-- A pending re-base; a sector crossing a tick after the last line crossing, one at it, and one at race clock 0. -/
theorem witness_RebaseAndSectorCrossings :
    let s : State := onLane (fun r => { r with rebasePending := true }) (heat .green)
    (Crosses s .l1 .line true 1 ∧ InPlay s .l1 ∧ TimingLine s .l1 .line ∧ TakesLap s 1 ∧
        (s.lane .l1).rebasePending = true) ∧
      (Crosses (heat .green) .l1 .sector true 100001 ∧ InPlay (heat .green) .l1 ∧
        ((heat .green).detector .l1 .sector).promoted = false ∧ TakesLap (heat .green) 100001 ∧
        ((heat .green).contexts.get .l1).sectorMark = none ∧ ((heat .green).lane .l1).lastCrossing < 100001) ∧
      (Crosses (heat .green) .l1 .sector true 100000 ∧ TakesLap (heat .green) 100000 ∧
        100000 ≤ ((heat .green).lane .l1).lastCrossing) ∧
      Crosses (heat .green) .l1 .sector true 0 :=
  ⟨⟨crosses (by decide), ⟨.inr rfl, rfl⟩, .inl rfl, ⟨by decide, .inl (.inl rfl)⟩, rfl⟩,
    ⟨crossesSector (by decide), ⟨.inr rfl, rfl⟩, rfl, ⟨by decide, .inl (.inl rfl)⟩, rfl, by decide⟩,
    ⟨crossesSector (by decide), ⟨by decide, .inl (.inl rfl)⟩, by decide⟩, crossesSector (by decide)⟩

/-- A jump in COUNTDOWN into the last slot, one at race clock 0 after the green event, a mark already set, each kind; a book
with every slot open. -/
theorem witness_JumpStartIsCalledOnce :
    let s (ph : Phase) (k : JumpKind) (mark : Bool) : State :=
      { staged (fun st => { st with jumpKind := k }) (onHeat (fun h => { h with jumpMarks := Lanes.all mark }) (heat ph)) with
        book := ⟨full.book.slots.take 15 ++ [Entry.unused], 16, 0, []⟩ }
    let recycling (k : JumpKind) : State :=
      { s .countdown k false with book := ⟨full.book.slots.take 15 ++ [entry .served 16 .warning], 17, 255, [15]⟩ }
    (∀ k ∈ [JumpKind.warning, .stopGo, .timeAdd],
        (s .countdown k false).staging.jumpKind = k ∧ (s .countdown k false).phase = .countdown ∧
          (s .countdown k false).heat.jumpMarks.get .l1 = false ∧ (s .countdown k false).book.slots.length = 16 ∧
          TakesSlot (s .countdown k false) 15 ∧ TakesSlot (recycling k) 15) ∧
      (Crosses (s .countdown .stopGo false) .l1 .line true 0 ∧ InPlay (s .countdown .stopGo false) .l1) ∧
      (Crosses (s .green .timeAdd false) .l1 .line true 0 ∧ (s .green .timeAdd false).phase = .green) ∧
      (Crosses (s .countdown .stopGo true) .l1 .line true 0 ∧
        (s .countdown .stopGo true).heat.jumpMarks.get .l1 = true) ∧
      (Crosses full .l1 .line true 0 ∧ InPlay full .l1 ∧ full.phase = .green ∧ full.heat.jumpMarks.get .l1 = false ∧
        full.book.slots.length = 16 ∧ (∀ j < 16, (full.entry j).tag ≠ .empty) ∧ full.book.closed = [] ∧
        full.exceptions.book.flag = false) :=
  ⟨by unfold TakesSlot; decide +kernel, ⟨crosses (by decide +kernel), ⟨.inr rfl, rfl⟩⟩, ⟨crosses (by decide +kernel), rfl⟩,
    ⟨crosses (by decide +kernel), rfl⟩, crosses (by decide +kernel), ⟨.inr rfl, rfl⟩, by decide +kernel⟩

/-- A beam broken since 0 in a race that runs since 0, at the stuck limit of 2,000 ms; sector in service, promoted and out. -/
theorem witness_StuckWatchReportsTheDetector :
    let s (k : DetKind) (masked promoted : Bool) (other : DetState) : State :=
      at' 2000 (onHeat (fun h => { h with racingSince := some 0 })
        (onExc (fun e => { e with detector := { e.detector with mask := masked } })
          (((heat .green).modDetector .l1 .sector (fun d => { d with state := other, promoted := promoted })).modDetector
            .l1 k (fun d => { d with state := .inService, broken := true, brokenStart := some 0 }))))
    ∀ k ∈ [DetKind.line, .sector], ∀ masked ∈ [true, false], ∀ promoted ∈ [true, false],
      ∀ other ∈ [DetState.inService, .out],
      let x := s k masked promoted other
      x.pins.reset = false ∧ (x.detector .l1 k).state = .inService ∧ (x.detector .l1 k).broken = true ∧
        (x.detector .l1 k).watchExpired = false ∧ x.phase = .green ∧ (x.lane .l1).status = .running ∧
        (x.detector .l1 k).brokenStart = some 0 ∧ x.heat.racingSince = some 0 ∧
        x.staging.stuckLimit ≤ elapsed x.now 0 ∧ x.exceptions.detector.mask = masked ∧
        (x.detector .l1 .sector).promoted = promoted ∧ (k = .line → (x.detector .l1 .sector).state = other) := by
  decide +kernel

theorem witness_DetectorsLeaveAndReturn :
    let s (line sector : DetState) (promoted lost : Bool) : State :=
      onLane (fun r => { r with timingLost := lost })
        (((heat .green).modDetector .l8 .line fun d => { d with state := line }).modDetector .l8 .sector
          fun d => { d with state := sector, promoted := promoted })
    ∀ line ∈ [DetState.disabled, .inService, .faulted, .out], ∀ sector ∈ [DetState.disabled, .inService, .faulted, .out],
      ∀ promoted ∈ [true, false], ∀ lost ∈ [true, false],
      let x := s line sector promoted lost
      (x.pins.reset = false ∧ (x.ports.get .p0).receive = .waiting) ∧ x.role .p0 = .control ∧
        (8 : Byte).toNat = Lane.l8.num ∧ x.phase ≠ .idle ∧ x.phase ≠ .ended ∧ (x.lane .l8).status ≠ .out ∧
        (x.detector .l8 .line).state = line ∧ (x.detector .l8 .sector).state = sector ∧
        (x.detector .l8 .sector).promoted = promoted ∧ (x.lane .l1).timingLost = lost := by
  decide +kernel

/-- Kind code 2; IDLE and ENDED; lanes 0 and 9 and a lane that is OUT. -/
theorem witness_DetectorsLeaveAndReturn_refused :
    (∀ ph, Ready (heat ph) .p0 ∧ (heat ph).role .p0 = .control ∧ (heat ph).phase = ph) ∧
      2 ≤ (2 : Word).toNat ∧ (1 : Word).toNat < 2 ∧ (0 : Byte).toNat = 0 ∧ 8 < (9 : Byte).toNat ∧
      ((1 : Byte).toNat = Lane.l1.num ∧ ((onLane (fun r => { r with status := .out }) (heat .green)).lane .l1).status = .out) :=
  ⟨fun _ => ⟨⟨rfl, rfl⟩, rfl, rfl⟩, by decide⟩

/-- Suspects whose window of 30 s has run to the millisecond: one TOO_SOON, one a timed lap at exactly the lockout, one
superseded, one of a FINISHED lane, one second in the queue; L at 65,535; a
sector mark a tick after the capture and one at it. -/
theorem witness_SuspectsAreResolved :
    let s (x : Suspect) : State := at' 30000 { heat .green with queue := [x, suspect 2 .tooSoon] }
    let timed : Suspect := { suspect 1 .noSector with capture := 300000 }
    let late : Suspect := { suspect 1 .noSector with superseded := true }
    let mark (m : Nat) : State := { s timed with contexts := Lanes.all ⟨true, some m, false, false, false⟩ }
    let finished : State := onLane (fun r => { r with status := .finished }) (s timed)
    let top : State := onLane (fun r => { r with laps := 65535 }) (s timed)
    (Ready (s timed) .p0 ∧ (s timed).role .p0 = .control ∧ (∃ x ∈ (s timed).queue, x.seq = (1 : Word).toNat) ∧
        (∀ x ∈ (s timed).queue, x.seq ≠ (3 : Word).toNat)) ∧
      ((s (suspect 1 .tooSoon)).queue = suspect 1 .tooSoon :: [suspect 2 .tooSoon] ∧
        (s timed).staging.adjudicationWindow * 1000 ≤ elapsed (s timed).now (suspect 1 .tooSoon).arrival) ∧
      ((s timed).pins.reset = false ∧ ((s timed).queue.map Suspect.seq).Nodup ∧ timed ∈ (s timed).queue ∧
        (s timed).queue.head? = some timed ∧ suspect 2 .tooSoon ∈ (s timed).queue ∧
        (2 : Word).toNat = (suspect 2 .tooSoon).seq ∧ ((s timed).lane .l1).laps < 65535) ∧
      ¬ FinishesAt (s timed) .l1 timed.capture ∧
      (timed.reason = .noSector ∧ timed.superseded = false ∧ ((s timed).lane .l1).status ≠ .finished ∧
        ((s timed).lane .l1).lastCrossing < timed.capture ∧
        (s timed).staging.lockout * 1000 ≤ timed.capture - ((s timed).lane .l1).lastCrossing) ∧
      (late.superseded = true ∧ ((s late).lane .l1).history.length < 32) ∧ (finished.lane .l1).status = .finished ∧
      (¬ FinishesAt top .l1 timed.capture ∧ (top.lane .l1).laps = 65535 ∧ top.exceptions.saturation.flag = false) ∧
      ∀ m ∈ [300000, 300001], ((mark m).contexts.get .l1).sectorMark = some m :=
  ⟨⟨⟨rfl, rfl⟩, by decide⟩, by decide, by decide, noFinish rfl, by decide, by decide, by decide,
    ⟨noFinish rfl, rfl, rfl⟩, by decide⟩

/-- The 65,536th lap, standing and not; a TOO_SOON suspect captured after one lap of the history and before the other, before
lap 1, before lap 2 with lap 1 gone, with no lap counted, and at L of 65,535. -/
theorem witness_SaturatedAndCreditedLaps :
    let top (standing : Bool) : State :=
      { onLane (fun r => { r with laps := 65535 }) (heat .green) with contexts := Lanes.all ⟨!standing, none, false, false, false⟩ }
    let lap (n c : Nat) : Lap := ⟨n, c, some 100000, none, {}⟩
    let x := suspect 1 .tooSoon
    let s (laps : Nat) (h : List Lap) : State :=
      { onLane (fun r => { r with laps := laps, history := h }) (heat .green) with queue := [suspect 2 .noSector, x] }
    (∀ b, (Crosses (top b) .l1 .line true 300000 ∧ InPlay (top b) .l1 ∧ TimingLine (top b) .l1 .line ∧
        TakesLap (top b) 300000 ∧ PassesTests (top b) .l1 .line 300000) ∧ ¬ FinishesAt (top b) .l1 300000 ∧
        ((top b).lane .l1).laps = 65535 ∧ ((top b).contexts.get .l1).referenceSet = !b ∧
        (top b).exceptions.saturation.flag = false) ∧
      (∀ n h, Ready (s n h) .p0 ∧ (s n h).role .p0 = .control ∧ ((s n h).queue.map Suspect.seq).Nodup ∧
        x ∈ (s n h).queue ∧ (1 : Word).toNat = x.seq ∧ x.reason = .tooSoon ∧ ((s n h).lane .l1).laps = n ∧
        ((s n h).lane .l1).history = h) ∧
      ([lap 1 400000, lap 2 500000].filter (fun y => decide (y.closeTime ≤ x.capture)) = [lap 1 400000]) ∧
      ([lap 1 400001].filter (fun y => decide (y.closeTime ≤ x.capture)) = [] ∧ (lap 1 400001).number = 1) ∧
      ([lap 2 400001].filter (fun y => decide (y.closeTime ≤ x.capture)) = [] ∧ ∀ y ∈ [lap 2 400001], y.number ≠ 1) :=
  ⟨fun b => ⟨passes (by cases b <;> decide), noFinish rfl, rfl, rfl, rfl⟩,
    fun _ _ => ⟨⟨rfl, rfl⟩, rfl, show [2, 1].Nodup by decide, .tail _ (.head _), rfl, rfl, rfl, rfl⟩, by decide, by decide, by decide⟩

/-- A suspect whose lap reaches the target exactly, first in the queue at its deadline and second in it; a TIMED_RUN_TO_LINE
suspect at the finish reference; with and without another lane RUNNING; in ENDED. -/
theorem witness_AcceptedLapsFinishTheLane :
    let x : Suspect := { suspect 1 .noSector with capture := 300000 }
    let s (m : HeatMode) (ph : Phase) (f : Option Nat) (q : List Suspect) : State :=
      at' 30000 { staged (fun st => { st with heatMode := m, lapTarget := 2 })
        (onHeat (fun h => { h with finishReference := f }) (heat ph)) with queue := q }
    let alone : State := { s .lapTarget .green none [x] with
      lanes := Lanes.set (Lanes.all { runner with status := .finished }) .l1 runner }
    let top : State := onLane (fun r => { r with laps := 65535 }) (s .lapTarget .green none [x])
    (∀ ph, FinishesAt (s .lapTarget ph none [x]) .l1 x.capture ∧ (s .lapTarget ph none [x]).phase = ph) ∧
      FinishesAt (s .timedRunToLine .finishing (some 300000) [x]) .l1 x.capture ∧
      (let y := s .lapTarget .green none [suspect 2 .tooSoon, x]
       Ready y .p0 ∧ y.role .p0 = .control ∧ (y.queue.map Suspect.seq).Nodup ∧ x ∈ y.queue ∧ (1 : Word).toNat = x.seq ∧
         y.pins.reset = false ∧ x.superseded = false ∧ (y.lane .l1).lastCrossing < x.capture ∧
         y.staging.lockout * 1000 ≤ x.capture - (y.lane .l1).lastCrossing ∧
         (y.lane .l2).status = .running) ∧
      (let y := s .lapTarget .green none [x]
       y.queue.head? = some x ∧ y.staging.adjudicationWindow * 1000 ≤ elapsed y.now x.arrival) ∧
      (FinishesAt alone .l1 x.capture ∧ alone.phase = .green ∧ ∀ m, m ≠ .l1 → (alone.lane m).status ≠ .running) ∧
      (FinishesAt top .l1 x.capture ∧ (top.lane .l1).laps = 65535 ∧ top.exceptions.saturation.flag = false) :=
  ⟨fun _ => ⟨⟨rfl, .inl ⟨rfl, .inl (show ((2 : Nat) : Int) ≤ (min 65535 (1 + 1) : Nat) - ((0 : Nat) : Int) by decide)⟩⟩, rfl⟩,
    ⟨rfl, .inr ⟨rfl, 300000, rfl, by decide⟩⟩,
    ⟨⟨rfl, rfl⟩, rfl, by decide⟩, by decide,
    ⟨⟨rfl, .inl ⟨rfl, .inl (by decide)⟩⟩, rfl, forLane (by decide)⟩,
    ⟨rfl, .inl ⟨rfl, .inl (show ((2 : Nat) : Int) ≤ (min 65535 (65535 + 1) : Nat) - ((0 : Nat) : Int) by decide +kernel)⟩⟩,
    by decide +kernel⟩

/-- A heat in a phase whose lane 1 has a status. -/
def lane1 (x : LaneStatus) (ph : Phase) : State := onLane (fun r => { r with status := x }) (heat ph)

/-- Kind 6; LAP_DEDUCT from a marshal; COUNTDOWN from a marshal; lanes 0 and 9; each status; POWER_CAP too late. -/
theorem witness_CallChecksInOrder :
    (Ready (heat .green) .p1 ∧ Ready (heat .green) .p0) ∧
      ((heat .green).role .p1 ≠ .display ∧ (heat .green).role .p0 = .control ∧ (heat .green).role .p1 ≠ .control) ∧
      (6 ≤ (6 : Byte).toNat ∧ (3 : Byte).toNat < 6 ∧ ¬ (3 : Byte).toNat ≤ 2 ∧ (2 : Byte).toNat ≤ 2) ∧
      ((heat .countdown).phase = .countdown ∧ (0 : Byte).toNat = 0 ∧ 8 < (9 : Byte).toNat ∧ (8 : Byte).toNat = Lane.l8.num) ∧
      (∀ x ∈ [LaneStatus.out, .stoodDown, .finished], ((lane1 x .green).lane .l1).status = x) ∧
      ((lane1 .running .ended).phase = .ended ∧ ((lane1 .running .ended).lane .l1).status ≠ .out) :=
  ⟨⟨⟨rfl, rfl⟩, ⟨rfl, rfl⟩⟩, by decide, by decide, by decide, by decide, by decide⟩

/-- Every kind called by CONTROL into the last slot under the last number, and by a marshal where calls are confirmed; the
last RUNNING lane; a book without an EMPTY slot. -/
theorem witness_CallCreatesAnEntry :
    let s (m : HeatMode) (x : LaneStatus) (ph : Phase) : State :=
      { staged (fun st => { st with heatMode := m, confirmMarshalCalls := true }) (lane1 x ph) with
        book := ⟨full.book.slots.take 15 ++ [Entry.unused], 65535, 0, []⟩ }
    let r := s .timedFreeze .running .green
    let late := s .timedFreeze .running .settling
    let alone : State := { r with lanes := Lanes.set (Lanes.all { runner with status := .finished }) .l1 runner }
    let recycling : State := { r with book := ⟨full.book.slots.take 15 ++ [entry .served 16 .warning], 17, 255, [15]⟩ }
    (Ready r .p0 ∧ Ready r .p1 ∧ Ready late .p0) ∧ (r.role .p0 = .control ∧ r.role .p1 = .marshal ∧ r.phase.racing = true) ∧
      (∀ k ∈ [Kind.warning, .stopGo, .timeAdd, .lapDeduct, .powerCap, .standdown],
        (BitVec.ofNat 8 k.code).toNat = k.code ∧ (k.code ≤ 2 → ∀ j < 16, mergesWith r .l1 k (r.entry j) = false)) ∧
      ((1 : Byte).toNat = Lane.l1.num ∧ (r.lane .l1).status ≠ .out ∧ (r.lane .l1).status ≠ .stoodDown ∧
        (r.lane .l1).status ≠ .finished ∧ r.phase ≠ .settling ∧ r.phase ≠ .ended) ∧
      (r.book.slots.length = 16 ∧ 1 ≤ r.book.nextSeq ∧ r.book.nextSeq ≤ 65535 ∧ TakesSlot r 15 ∧ TakesSlot recycling 15) ∧
      (r.staging.confirmMarshalCalls = true ∧ late.phase = .settling) ∧
      (((s .lapTarget .finished .green).lane .l1).status = .finished ∧
        (s .lapTarget .finished .green).staging.heatMode = .lapTarget) ∧
      ((alone.lane .l1).status = .running ∧ alone.phase.racing = true ∧ (r.lane .l2).status = .running) ∧
      ∀ m, m ≠ .l1 → (alone.lane m).status ≠ .running :=
  ⟨⟨⟨rfl, rfl⟩, ⟨rfl, rfl⟩, ⟨rfl, rfl⟩⟩, by decide, by decide +kernel, by decide,
    ⟨by decide +kernel, by decide, by decide, by unfold TakesSlot; decide +kernel, by unfold TakesSlot; decide +kernel⟩,
    by decide, by decide,
    by decide, forLane (by decide)⟩

/-- Sixteen slots held, the last closed first, before each kind of call by race control and by a marshal, a jump start and an
escalation; and all open. -/
theorem witness_FullBookIsRecycled :
    let s : State := staged (fun st => { st with escalationThreshold := 2 })
      { heat .green with
        book := ⟨full.book.slots.take 15 ++ [entry .served 16 .warning], 17, 255, [15]⟩
        deslots := Lanes.all ⟨1, 0, none⟩ }
    let late : State := { s with heat := { s.heat with phase := .settling } }
    let counting : State := { s with heat := { s.heat with phase := .countdown } }
    let held (x : State) : Prop := x.book.slots.length = 16 ∧ ∀ j < 16, (x.entry j).tag ≠ .empty
    ((Ready s .p0 ∧ Ready s .p1 ∧ Ready late .p0) ∧ s.role .p0 = .control ∧ s.role .p1 = .marshal ∧
        s.phase.racing = true ∧ late.phase = .settling ∧ (8 : Byte).toNat = Lane.l8.num ∧
        (s.lane .l8).status = .running ∧ s.book.closed = 15 :: []) ∧
      (∀ k ∈ [Kind.warning, .stopGo, .timeAdd, .lapDeduct, .powerCap, .standdown],
        (BitVec.ofNat 8 k.code).toNat = k.code ∧ (k.code ≤ 2 → ∀ j < 16, mergesWith s .l8 k (s.entry j) = false)) ∧
      (held s ∧ held late ∧ held counting) ∧
      (Ready full .p0 ∧ (full.lane .l8).status = .running ∧ held full ∧ full.book.closed = [] ∧
        full.exceptions.book.flag = false) ∧
      (Crosses counting .l1 .line true 0 ∧ InPlay counting .l1 ∧ counting.heat.jumpMarks.get .l1 = false ∧
        counting.phase = .countdown ∧ counting.book.closed = [15]) ∧
      ((s.deslots.get .l8).mark = none ∧ s.staging.escalationThreshold ≠ 0 ∧
        min 255 ((s.deslots.get .l8).count + 1) = s.staging.escalationThreshold) :=
  ⟨⟨⟨⟨rfl, rfl⟩, ⟨rfl, rfl⟩, ⟨rfl, rfl⟩⟩, by decide +kernel⟩, by decide +kernel, by decide +kernel,
    ⟨⟨rfl, rfl⟩, by decide +kernel⟩, ⟨crosses (by decide +kernel), ⟨.inr rfl, rfl⟩, by decide +kernel⟩, by decide⟩

/-- 1 ms inside the merge window of 3 s, of two entries of the lane and kind the one called later. -/
theorem witness_MarshalReportsMerge :
    let e (t : StationTime) (seq : Nat) : Entry :=
      { entry .called seq .timeAdd with origin := .marshal .p1, callStation := t }
    let s : State := at' 3001 { heat .green with
      book := ⟨e 1 1 :: e 2 2 :: List.replicate 14 Entry.unused, 3, 0, []⟩
      deslots := Lanes.all ⟨1, 0, some 2⟩ }
    (Ready s .p2 ∧ s.role .p2 = .marshal ∧ s.phase = .green ∧ (1 : Byte).toNat = Lane.l1.num ∧
        (2 : Byte).toNat = Kind.timeAdd.code ∧ (s.lane .l1).status ≠ .out ∧ (s.lane .l1).status ≠ .stoodDown ∧
        s.book.slots.length = 16 ∧ (s.entry 1).tag = .called ∧ (s.entry 1).origin = .marshal .p1 ∧
        (s.entry 1).lane = .l1 ∧ (s.entry 1).kind = .timeAdd ∧
        elapsed s.now (s.entry 1).callStation < s.staging.mergeWindow * 1000 ∧
        ∀ j < 16, j ≠ 1 → mergesWith s .l1 .timeAdd (s.entry j) = true →
          elapsed s.now (s.entry 1).callStation < elapsed s.now (s.entry j).callStation) ∧
      ((s.lane .l1).status = .running ∧ (s.deslots.get .l1).mark = some 2 ∧
        elapsed s.now 2 < s.staging.mergeWindow * 1000) := ⟨⟨⟨rfl, rfl⟩, by decide +kernel⟩, by decide⟩

/-- A marshal's report 3 s after the mark, a count one below the threshold of 2 and one at 254, a book with every slot open,
and the refusals. -/
theorem witness_DeslotsCountAndEscalate :
    let s (threshold count : Nat) : State :=
      at' 3000 { staged (fun st => { st with escalationThreshold := threshold }) (heat .green) with
        deslots := Lanes.all ⟨count, 4, some 0⟩ }
    let lost : State := { s 2 1 with book := full.book }
    let recycling : State :=
      { s 2 1 with book := ⟨full.book.slots.take 15 ++ [entry .served 16 .warning], 17, 255, [15]⟩ }
    (Ready (s 2 1) .p1 ∧ (s 2 1).role .p1 ≠ .display ∧ (s 2 1).phase = .green ∧ (1 : Byte).toNat = Lane.l1.num ∧
        ((s 2 1).lane .l1).status = .running ∧
        (s 2 1).staging.mergeWindow * 1000 ≤ elapsed (s 2 1).now 0 ∧
        min 255 (((s 2 1).deslots.get .l1).count + 1) = (s 2 1).staging.escalationThreshold ∧
        (s 2 1).book.slots.length = 16 ∧ TakesSlot (s 2 1) 0 ∧ TakesSlot recycling 15) ∧
      (Ready (s 0 254) .p0 ∧ (s 0 254).staging.escalationThreshold = 0 ∧ (s 0 254).role .p0 = .control) ∧
      min 255 (((s 2 0).deslots.get .l1).count + 1) ≠ (s 2 0).staging.escalationThreshold ∧
      ((heat .settling).phase = .settling ∧ 8 < (9 : Byte).toNat) ∧
      (∀ x ∈ [LaneStatus.out, .grid, .finished, .stoodDown], ((lane1 x .green).lane .l1).status = x) ∧
      (Ready lost .p1 ∧ min 255 ((lost.deslots.get .l1).count + 1) = lost.staging.escalationThreshold ∧
        (lost.lane .l1).status = .running ∧ lost.book.slots.length = 16 ∧ (∀ j < 16, (lost.entry j).tag ≠ .empty) ∧
        lost.book.closed = [] ∧ lost.exceptions.book.flag = false) :=
  ⟨⟨⟨rfl, rfl⟩, by unfold TakesSlot; decide +kernel⟩, ⟨⟨rfl, rfl⟩, by decide⟩, by decide, by decide, by decide, ⟨rfl, rfl⟩, by decide +kernel⟩

/-- An entry of each tag and kind in slot 0 under number 7, at the end of the confirm window of 20 s; a CALLED stop-go of a
lane that is FINISHED or stood down, in SETTLING and in ENDED. -/
theorem witness_EntriesAreConfirmedOrWaived :
    let s (tag : Tag) (k : Kind) : State := at' 20000 (holding (entry tag 7 k) (heat .green))
    let late (x : LaneStatus) (ph : Phase) : State := holding (entry .called 7 .stopGo) (lane1 x ph)
    (∀ tag ∈ [Tag.called, .active, .serving, .served, .waived], ∀ k ∈ [Kind.warning, .stopGo, .timeAdd, .powerCap],
        (s tag k).book.slots.length = 16 ∧ slotOf (s tag k).book (7 : Word).toNat = some 0 ∧ ((s tag k).entry 0).tag = tag ∧
          ((s tag k).entry 0).kind = k ∧ ((s tag k).lane .l1).status = .running ∧ (s tag k).phase.racing = true ∧
          (s tag k).staging.confirmWindow * 1000 ≤ elapsed (s tag k).now ((s tag k).entry 0).callStation) ∧
      (Ready (s .called .stopGo) .p0 ∧ (s .called .stopGo).role .p0 = .control) ∧
      NumberFree (s .called .stopGo) (8 : Word).toNat ∧
      (∀ x ph, Ready (late x ph) .p0 ∧ ((late x ph).lane .l1).status = x ∧ (late x ph).phase = ph) ∧
      (slotOf (late .finished .green).book (7 : Word).toNat = some 0 ∧ ((late .finished .green).entry 0).lane = .l1) :=
  ⟨by decide +kernel, ⟨⟨rfl, rfl⟩, rfl⟩, by unfold NumberFree; decide +kernel, fun _ _ => ⟨⟨rfl, rfl⟩, rfl, rfl⟩,
    by decide +kernel⟩

/-- A book with an entry in STAGED and an empty one in ENDED; a stop-go with one millisecond left. -/
theorem witness_BookClearsAndStopGosEnd :
    let s : State := { holding { entry .serving 7 .stopGo with progress := some 1 } (heat .green) with
      channels := Lanes.all ⟨⟨[], some 7⟩, ⟨[], none⟩⟩ }
    (Ready (heat .staged) .p0 ∧ (heat .staged).role .p0 = .control ∧ (heat .staged).phase = .staged) ∧
      (Ready (heat .green) .p0 ∧ (heat .green).phase ≠ .staged ∧ (heat .green).phase ≠ .ended) ∧
      (s.pins.reset = false ∧ (s.channels.get .l1).stop.serving = some 7 ∧ slotOf s.book 7 = some 0 ∧
        (s.entry 0).progress = some 1 ∧ powerState s .l1 ≠ .held) :=
  ⟨⟨⟨rfl, rfl⟩, by decide⟩, ⟨⟨rfl, rfl⟩, by decide⟩, by decide +kernel⟩

/-- Lane 1 with a stop-go serving, one waiting and a cap waiting: the heat ends, a lap reaches the target of 2, and the lane is
stood down in COUNTDOWN by a call that takes slot 3. -/
theorem witness_ChannelsCloseWithTheLane :
    let s (ph : Phase) : State :=
      serving [owed .serving 21 .stopGo 3200, owed .active 22 .stopGo 5000, owed .active 23 .powerCap 3]
        ⟨⟨[22], some 21⟩, ⟨[23], none⟩⟩ (staged (fun st => { st with heatMode := .lapTarget, lapTarget := 2 }) (heat ph))
    EndsHeat (s .green) (.endHeat .p0) .aborted ∧ channelSlots (s .green) .l1 = [0, 1, 2] ∧
      (NumbersDiffer (s .green) ∧ ChannelsAgree (s .green)) ∧
      ((Crosses (s .green) .l1 .line true 300000 ∧ InPlay (s .green) .l1 ∧ TimingLine (s .green) .l1 .line ∧
        TakesLap (s .green) 300000 ∧ PassesTests (s .green) .l1 .line 300000) ∧ FinishesAt (s .green) .l1 300000) ∧
      (Ready (s .countdown) .p0 ∧ (s .countdown).role .p0 = .control ∧ (s .countdown).phase = .countdown ∧
        (1 : Byte).toNat = Lane.l1.num ∧ ((s .countdown).lane .l1).status ≠ .out ∧
        ((s .countdown).lane .l1).status ≠ .stoodDown ∧ TakesSlot (s .countdown) 3) ∧
      NumbersDiffer (s .countdown) ∧ ChannelsAgree (s .countdown) := by
  refine ⟨⟨rfl, .inr (.inr (.inr ⟨⟨.p0, rfl, ⟨rfl, rfl⟩, rfl⟩, rfl, .inl rfl⟩))⟩, by decide +kernel, ⟨?_, ?_⟩,
    ⟨passes (by decide), rfl, .inl ⟨rfl, .inl (by decide)⟩⟩, ⟨⟨rfl, rfl⟩, by unfold TakesSlot; decide +kernel⟩, ?_, ?_⟩ <;>
  first
  | exact agreeing (by decide +kernel) (by decide +kernel) (by decide +kernel) (by decide +kernel)
  | unfold NumbersDiffer; and_intros <;> decide +kernel

/-- The drive after exactly the dead time of 32 steps and one step before it, in each state; an on-time run and not run. -/
theorem witness_PowerStateDrivesTheOutputs :
    let s (cap : Bool) (f : PowerLane → PowerLane) (ph : Phase) : State :=
      let x := onPower f (heat ph)
      { x with
        clock := { x.clock with pwmLeft := 0, pwmElapsed := 600 }
        channels := Lanes.all ⟨⟨[], none⟩, ⟨[], if cap then some 7 else none⟩⟩ }
    let off (n : Nat) (x : PowerLane) : PowerLane := { x with drive := false, brake := false, driveOff := n, brakeOff := n }
    (∀ n ∈ [31, 32], ∀ cap ∈ [true, false],
        (s cap (off n) .green).pins.reset = false ∧ (s cap (off n) .green).clock.pwmLeft = 0 ∧
          powerState (s cap (off n) .green) .l1 = (if cap then .capped else .full) ∧
          ((s cap (off n) .green).power.get .l1).brakeOff = n ∧ (s cap (off n) .green).staging.deadTime * 8 = 32 ∧
          powerState (s cap (off n) .hold) .l1 = .held ∧ ((s cap (off n) .hold).power.get .l1).driveOff = n) ∧
      ((s false (fun y => { off 32 y with retryWatch := some 100 }) .green).power.get .l1).retryWatch = some 100 ∧
      0 < State.reset.clock.pwmLeft ∧
      (∀ n ∈ [600, 601],
        let x := s true (fun y => { y with drive := true, onTime := some n }) .green
        powerState x .l1 = .capped ∧ (x.power.get .l1).drive = true ∧ (x.power.get .l1).onTime = some n ∧
          x.clock.pwmElapsed = 600) := by decide +kernel

/-- A trip with the mask clear and set, with and without a started watch, at the retry counts 0 to 2. -/
theorem witness_TripsAreClassifiedAndRetried_trips :
    ∀ masked ∈ [true, false], ∀ w ∈ [none, some 40], ∀ n ∈ [0, 1, 2],
      let s : State := onExc (fun e => { e with overcurrent := { e.overcurrent with mask := masked } })
        (onPower (fun x => { x with drive := true, retryWatch := w, watchStarted := w.isSome, retryCount := n
                                    overcurrent := true }) (heat .green))
      s.pins.reset = false ∧ (s.power.get .l1).drive = true ∧ s.exceptions.overcurrent.mask = masked ∧
        (s.power.get .l1).retryWatch = w ∧ (s.power.get .l1).retryCount = n ∧ (s.power.get .l1).overcurrent = true := by
  decide +kernel

/-- A retry delay of 1,000 ms run to the millisecond, a watch at 0, a clean run of exactly 5,000 ms; lane 8 TRIPPED and not,
lanes 0 and 9. -/
theorem witness_TripsAreClassifiedAndRetried_retries :
    let s : State := at' 1000 (onPower (fun x => { x with tripped := true, retryDelayEnd := some 1000 }) (heat .green))
    let w : State := onPower (fun x => { x with watchStarted := true, retryWatch := some 0, driveOnRun := 5000
                                                retryCount := 1 }) (heat .green)
    (s.pins.reset = false ∧ (s.power.get .l1).tripped = true ∧ (s.power.get .l1).retryDelayEnd = some 1000 ∧
        s.staging.retryDelay ≤ elapsed s.now (1000 - BitVec.ofNat 32 s.staging.retryDelay)) ∧
      elapsed (at' 999 s).now (1000 - BitVec.ofNat 32 s.staging.retryDelay) < (at' 999 s).staging.retryDelay ∧
      ((w.power.get .l1).tripped = false ∧ (w.power.get .l1).watchStarted = true ∧
        (w.power.get .l1).retryWatch = some 0 ∧ 5000 ≤ (w.power.get .l1).driveOnRun ∧ 0 < (w.power.get .l1).retryCount) ∧
      ((s.power.get .l1).watchStarted = false ∧ (s.power.get .l1).driveOnRun < 5000) ∧
      (Ready s .p0 ∧ s.role .p0 = .control ∧ (1 : Byte).toNat = Lane.l1.num ∧ (8 : Byte).toNat = Lane.l8.num ∧
        (s.power.get .l8).tripped = false ∧ (0 : Byte).toNat = 0 ∧ 8 < (9 : Byte).toNat) :=
  ⟨by decide, by decide, by decide, by decide, ⟨rfl, rfl⟩, by decide⟩

theorem witness_SupplyEdgesCallTheTrack :
    let s (masked : Bool) (ph : Phase) : State :=
      onExc (fun e => { e with supply := { e.supply with mask := masked } }) (heat ph)
    (∀ ph ∈ [Phase.green, .resuming, .finishing], (s true ph).pins.reset = false ∧ (s true ph).supply.low = false ∧
        (s true ph).exceptions.supply.mask = true ∧ (s true ph).phase = ph) ∧
      ((s false .green).exceptions.supply.mask = false ∧ (s true .idle).phase = .idle) ∧
      ({ s true .green with supply := ⟨true, 0⟩ } : State).supply.low = true := by decide

/-- Kinds clear and set, masked and unmasked, with the summary clear and set; SUSPECT newly masked over a queue of TOO_SOON
suspects and over one with a NO_SECTOR suspect. -/
theorem witness_ExceptionsAreRaisedAndMasked :
    let s (flag mask : Bool) : State :=
      onExc (fun e => { e with book := { e.book with flag := flag, mask := mask } }) (heat .green)
    let q : State := onExc (fun e => { e with suspect := { e.suspect with mask := false } })
      { heat .green with queue := [suspect 1 .tooSoon] }
    let two : State := { q with queue := [suspect 1 .tooSoon, suspect 2 .noSector] }
    ((s false false).exceptions.get .book).flag = false ∧ ((s true true).exceptions.get .book).flag = true ∧
      faultOutput (s false false) = false ∧ ((s false false).exceptions.get .book).mask = false ∧
      faultOutput (s true false) = true ∧ ((s true true).exceptions.get .book).mask = true ∧
      (Ready (heat .green) .p0 ∧ (heat .green).role .p0 = .control ∧ (heat .green).exceptions.suspect.mask = true ∧
        (heat .green).exceptions.overcurrent.mask = true ∧ (59 : Word).getLsbD 2 = false) ∧
      (let x : State := onExc (fun e => { e with overcurrent := { e.overcurrent with mask := false } })
          (onPower (fun y => { y with tripped := true }) (heat .green))
       x.exceptions.overcurrent.mask = false ∧ (63 : Word).getLsbD 2 = true ∧ (x.power.get .l1).tripped = true ∧
         (x.power.get .l1).locked = false ∧ (x.power.get .l1).retryDelayEnd = none) ∧
      (Ready q .p0 ∧ q.role .p0 = .control ∧ q.exceptions.suspect.mask = false ∧ (1 : Word).getLsbD 0 = true ∧
        ∀ x ∈ q.queue, x.reason = .tooSoon) ∧
      (Ready two .p0 ∧ two.role .p0 = .control ∧ two.exceptions.suspect.mask = false) :=
  ⟨rfl, rfl, by decide, rfl, by decide, rfl, ⟨⟨rfl, rfl⟩, by decide⟩, by decide, ⟨⟨rfl, rfl⟩, by decide⟩, ⟨rfl, rfl⟩, by decide⟩

theorem witness_ClearExceptionsClears : Ready (heat .green) .p0 ∧ (heat .green).role .p0 = .control := ⟨⟨rfl, rfl⟩, rfl⟩

theorem witness_TimesAreRounded :
    let st (x : Rounding) : Staging := { Staging.default with rounding := x, resolution := .us10 }
    (∀ x ∈ [Rounding.down, .up, .nearestEven], (st x).rounding = x ∧ (st x).resolution = .us10) ∧
      4294967295 ≤ 4294967295 := by decide

/-- A best lap; a last lap of exactly the lockout; none; TP 0 and 1; a score that penalties reduce to 0; an adjusted time at
its top and past it. -/
theorem witness_ScoresFollowTheLane :
    let s (f : LaneRecord → LaneRecord) : State := onLane f (heat .green)
    (((s fun r => { r with bestLap := some 1 }).lane .l1).bestLap = some 1) ∧
      (let x := s fun r => { r with lastLap := some 200000 }
       (x.lane .l1).bestLap = none ∧ (x.lane .l1).lastLap = some 200000 ∧ x.staging.lockout * 1000 ≤ 200000) ∧
      (∀ m, ((heat .green).lane .l1).lastLap = some m → m < (heat .green).staging.lockout * 1000) ∧
      (((heat .green).lane .l1).timePenalty = 0 ∧
        0 < ((s fun r => { r with timePenalty := 1, bestLap := some 1 }).lane .l1).timePenalty ∧
        0 < ((rescore .l1 (s fun r => { r with timePenalty := 1, bestLap := some 1 })).lane .l1).referenceLap) ∧
      (let x := rescore .l1 (s fun r => { r with timePenalty := 1, bestLap := some 1 })
       100 * (x.lane .l1).deducted + (x.lane .l1).penaltyHundredths ≤ 100 * (x.lane .l1).laps + 0) ∧
      (let x := rescore .l1 (s fun r => { r with deducted := 2 })
       100 * (x.lane .l1).laps + 0 < 100 * (x.lane .l1).deducted + (x.lane .l1).penaltyHundredths) ∧
      (100000 + ((s fun r => { r with timePenalty := 4294867295 }).lane .l1).timePenalty ≤ 4294967295 ∧
        4294967295 < 100000 + ((s fun r => { r with timePenalty := 4294867296 }).lane .l1).timePenalty) :=
  ⟨rfl, by decide, fun m h => by cases h; decide, by decide +kernel, by decide +kernel, by decide +kernel, by decide⟩

theorem witness_ReorderRanksTheLanes :
    (heat .green).order.Nodup ∧ (∀ l ∈ (heat .green).order, ((heat .green).lane l).status ≠ .out) ∧
      settling.order.Nodup ∧ (∀ l ∈ settling.order, (settling.lane l).status ≠ .out) := by decide

/-- A STAGED part with START waiting. -/
def starting : State := { grid with pending := [.start .p0] }

theorem starting_steps : step starting = .next (stateOr starting (step starting)) := by
  have h : step starting = exec (.start .p0) { starting with pending := [] } := rfl
  rw [h]
  rfl

theorem witness_OutputsFollowPowerState :
    OutputsFollow starting ∧ step starting = .next (stateOr starting (step starting)) :=
  ⟨forLane (by decide +kernel), starting_steps⟩

theorem witness_OrderHoldsEnabledLanes :
    OrderAgrees starting ∧ step starting = .next (stateOr starting (step starting)) :=
  ⟨⟨by decide +kernel, forLane (by decide +kernel), by decide +kernel⟩, starting_steps⟩

theorem witness_NumbersStayInOrder :
    NumbersDiffer starting ∧ HistoriesAscend starting ∧ step starting = .next (stateOr starting (step starting)) :=
  ⟨by unfold NumbersDiffer; and_intros <;> decide +kernel, forLane (by decide +kernel), starting_steps⟩

theorem witness_ChannelsHoldOpenEntries :
    NumbersDiffer starting ∧ ChannelsAgree starting ∧ step starting = .next (stateOr starting (step starting)) :=
  ⟨by unfold NumbersDiffer; and_intros <;> decide +kernel,
    agreeing (by decide +kernel) (by decide +kernel) (by decide +kernel) (by decide +kernel), starting_steps⟩

theorem witness_HeatFieldsAgreeWithPhase :
    HeatFieldsAgree starting ∧ step starting = .next (stateOr starting (step starting)) :=
  ⟨by unfold HeatFieldsAgree; decide +kernel, starting_steps⟩

theorem witness_PhaseFollowsTheTable :
    (∀ x, Instr.start .p0 ≠ .powerOn x) ∧ Instr.start .p0 ≠ .resetPin ∧ grid.pendingReset = none ∧
      exec (.start .p0) grid = .next (after (.start .p0) grid) ∧ grid.pending = [] ∧
      step grid = .next (stateOr grid (step grid)) :=
  ⟨fun _ h => (nomatch h), fun h => (nomatch h), rfl, rfl, rfl, by have h : step grid = .next (tick grid) := rfl; rw [h]; rfl⟩

/-! ### A stop-go that starts under a call, and an expiry beside a track call (R134, R55) -/

/-- A stop-go that starts in HOLD marks the lap it opens, which carries UNDER_CALL and PENALTY_LAP where it closes in GREEN
(R134). -/
theorem test_stop_go_begun_in_hold_marks_its_lap :
    let cross : Instr := .filteredLevelChange .l1 .line true 300000 0
    let t := after cross (serving [owed .active 22 .stopGo 5000] ⟨⟨[22], none⟩, ⟨[], none⟩⟩ (heat .hold))
    let u := after cross { heat .green with contexts := Lanes.all ⟨true, none, true, false, true⟩ }
    t.contexts.get .l1 = ⟨true, none, true, false, true⟩ ∧
      ((u.lane .l1).history.map fun x => (x.flags.underCall, x.flags.penaltyLap)) = [(true, true)] ∧
      (u.contexts.get .l1).underCallMark = false := by decide +kernel

/-- The tick in which the race clock reaches T_e and the supply falls: the expiry joins the queue ahead of the supply edge,
whose track call then comes too late (R55). -/
theorem test_expiry_joins_ahead_of_a_supply_edge :
    let s : State := { onHeat (fun h => { h with expiryTime := some 500001 }) (heat .green) with
      clock := { Clock.reset with tickSteps := 79, msTicks := 3, pwmLeft := 9, sampled := true }
      supply := ⟨false, 99⟩
      pins := { Pins.quiet with supplyLow := true } }
    (tick s).pending = [.heatTimeExpiryFreeze, .supplyLowEdge] := by decide +kernel

end Sys2Proof.Tests
end

/-! Reported times (R90). The rounded quotient is described once by the residue, then each rounding mode is bounded for every
divisor; `reported` is its use at the resolution in ticks. -/

namespace Sys2Proof.Machine

/-- Whatever the rounding mode, only a residue above 0 moves the quotient, and by one unit at most (R90). -/
theorem roundedQuotient_eq_div_or_succ (m : Rounding) (t d : Nat) :
    roundedQuotient m t d = t / d ∨ (roundedQuotient m t d = t / d + 1 ∧ 0 < t % d) := by
  cases m with
  | down => exact .inl rfl
  | up =>
    simp only [roundedQuotient]
    split
    · exact .inr ⟨rfl, ‹_›⟩
    · exact .inl rfl
  | nearestEven =>
    simp only [roundedQuotient]
    split
    · have heven : d = 0 → t / d % 2 = 0 := by rintro rfl; simp
      exact .inr ⟨rfl, by omega⟩
    · exact .inl rfl

/-- With no residue the modes agree on the quotient. -/
theorem roundedQuotient_of_mod_eq_zero (m : Rounding) {t d : Nat} (h : t % d = 0) : roundedQuotient m t d = t / d := by
  rcases roundedQuotient_eq_div_or_succ m t d with heq | ⟨-, hpos⟩
  · exact heq
  · omega

@[simp] theorem roundedQuotient_one (m : Rounding) (t : Nat) : roundedQuotient m t 1 = t := by
  rw [roundedQuotient_of_mod_eq_zero m (Nat.mod_one t), Nat.div_one]

@[simp] theorem roundedQuotient_zero_left (m : Rounding) (d : Nat) : roundedQuotient m 0 d = 0 := by
  rw [roundedQuotient_of_mod_eq_zero m (Nat.zero_mod d), Nat.zero_div]

/-- The unit that a residue adds is paid for by the residue, so a rounded quotient stays in its dividend's field. -/
theorem roundedQuotient_le_self (m : Rounding) (t : Nat) {d : Nat} (hd : 0 < d) : roundedQuotient m t d ≤ t := by
  have hsplit := Nat.div_add_mod t d
  have hle : t / d ≤ d * (t / d) := Nat.le_mul_of_pos_left _ hd
  rcases roundedQuotient_eq_div_or_succ m t d with heq | ⟨heq, hpos⟩ <;> omega

theorem roundedQuotient_down_bounds (t : Nat) {d : Nat} (hd : 0 < d) :
    roundedQuotient .down t d * d ≤ t ∧ t < (roundedQuotient .down t d + 1) * d :=
  ⟨Nat.div_mul_le_self t d, (Nat.div_lt_iff_lt_mul hd).1 (Nat.lt_succ_self _)⟩

theorem roundedQuotient_up_bounds (t : Nat) {d : Nat} (hd : 0 < d) :
    t ≤ roundedQuotient .up t d * d ∧ roundedQuotient .up t d * d < t + d := by
  have hsplit := Nat.div_add_mod' t d
  have hlt := Nat.mod_lt t hd
  simp only [roundedQuotient]
  split
  · rw [Nat.add_one_mul (t / d)]; omega
  · omega

/-- Both bounds are within half a unit, and a tie, which meets one of them exactly, leaves an even result (R90). -/
theorem roundedQuotient_nearestEven_bounds (t : Nat) {d : Nat} (hd : 0 < d) :
    let n := roundedQuotient .nearestEven t d
    2 * (n * d) ≤ 2 * t + d ∧ 2 * t ≤ 2 * (n * d) + d ∧
      (2 * (n * d) = 2 * t + d ∨ 2 * t = 2 * (n * d) + d → n % 2 = 0) := by
  have hsplit := Nat.div_add_mod' t d
  have hlt := Nat.mod_lt t hd
  simp only [roundedQuotient]
  split
  · rw [Nat.add_one_mul (t / d)]; omega
  · omega

theorem Resolution.ticks_pos (r : Resolution) : 0 < r.ticks := by cases r <;> decide

end Sys2Proof.Machine

namespace Sys2Proof.Safety
open Sys2Proof.Machine

/-- Settles O51: the bounds of each rounding mode at the resolution in ticks. -/
theorem timesAreRounded : Obligations.TimesAreRounded := by
  intro st t
  have hd := st.resolution.ticks_pos
  refine ⟨fun hdown => ?down, fun hup => ?up, fun heven => ?nearestEven, fun hone => ?finest,
    roundedQuotient_zero_left _ _, Nat.le_trans (roundedQuotient_le_self st.rounding t hd), rfl⟩
  case down =>
    have hbounds := roundedQuotient_down_bounds t hd
    rwa [← hdown] at hbounds
  case up =>
    have hbounds := roundedQuotient_up_bounds t hd
    rwa [← hup] at hbounds
  case nearestEven =>
    have hbounds := roundedQuotient_nearestEven_bounds t hd
    rwa [← heven] at hbounds
  case finest =>
    have hticks : st.resolution.ticks = 1 := hone
    rw [reported, hticks, roundedQuotient_one]

end Sys2Proof.Safety
